-- ==== Sys2Proof/Word.lean ====
section
/-! DEFINITION. The block's word types: sequence numbers, slot indices, packets, and a table with one
entry per slot. Sequence arithmetic stands in `Machine/SeqArith.lean`. -/

namespace Sys2Proof

/-- A sequence or acknowledgement number: 3 bits, unsigned `0..MAX_SEQ` (00_scope R6). -/
abbrev Seq := BitVec 3

/-- A slot index `0..NR_BUFS-1`, 2 bits (00_scope R7, 20_memory R50). -/
abbrev Slot := Fin 4

/-- A packet: an opaque value of `PAYLOAD_W` bits that the engine moves whole and never inspects
(00_scope R9, 20_memory R53). `PAYLOAD_W` is OPEN: the value is a natural number, so that this one
model is the model at every width at once (DESIGN CHOICE, log 1). -/
structure Packet where
  value : Nat
deriving DecidableEq, Repr, Inhabited

/-- The value of the payload port when no packet is present (30_encoding R79). It fits every width. -/
def Packet.zero : Packet := ⟨0⟩

/-- One entry for each of the `NR_BUFS = 4` slots (00_scope R7). -/
structure Quad (α : Type) where
  s0 : α
  s1 : α
  s2 : α
  s3 : α
deriving DecidableEq, Repr, Inhabited

/-- `ARR[e]` (00_scope R16). -/
def Quad.get {α : Type} (q : Quad α) : Slot → α
  | 0 => q.s0
  | 1 => q.s1
  | 2 => q.s2
  | 3 => q.s3

/-- `ARR[e] <- v` (00_scope R16). -/
def Quad.set {α : Type} (q : Quad α) (e : Slot) (v : α) : Quad α :=
  match e with
  | 0 => { q with s0 := v }
  | 1 => { q with s1 := v }
  | 2 => { q with s2 := v }
  | 3 => { q with s3 := v }

/-- The same value in every slot. -/
def Quad.fill {α : Type} (v : α) : Quad α := ⟨v, v, v, v⟩

/-- One function applied to every slot's entry at once (41_timer_manager R127 "simultaneously"). -/
def Quad.map {α β : Type} (f : α → β) (q : Quad α) : Quad β := ⟨f q.s0, f q.s1, f q.s2, f q.s3⟩

end Sys2Proof
end

