-- ==== Sys2Proof/Syntax.lean ====
section
/-! DEFINITION. What the engine executes (events, one constructor per row of the opcode table), the
frames and port items it exchanges, and the moves of the agents around it. -/

namespace Sys2Proof

/-- The operations of the hardware: its events (30_encoding R70, R81), one constructor per row of
`spec/opcode_table.json`. Bits a row ignores are no operand (30_encoding R73, R75). -/
inductive Instr where
  /-- NETWORK_LAYER_READY (43 R172). -/
  | nlr
  /-- FRAME_ARRIVAL of a DATA frame (43 R174). -/
  | faData
  /-- FRAME_ARRIVAL of an ACK frame (43 R178). -/
  | faAck
  /-- FRAME_ARRIVAL of a NAK frame (43 R179). -/
  | faNak
  /-- FRAME_ARRIVAL of a frame with the reserved kind (43 R181). -/
  | faRsvd
  /-- CKSUM_ERR (43 R185). -/
  | cksum
  /-- TIMEOUT(seq), with the sequence number its `ARG` field carries (43 R187, 30_encoding R75). -/
  | timeout (q : Seq)
  /-- ACK_TIMEOUT (43 R188). -/
  | ackto
  /-- The unrecognized event with `ETYPE = 5` (43 R189). -/
  | rsvd5
  /-- The unrecognized event with `ETYPE = 6` (43 R189). -/
  | rsvd6
  /-- The unrecognized event with `ETYPE = 7` (43 R189). -/
  | rsvd7
deriving DecidableEq, Repr, Inhabited

/-- The kind of a frame (30_encoding R77). -/
inductive Kind where
  | data
  | ack
  | nak
  | rsvd
deriving DecidableEq, Repr, Inhabited

/-- The kinds the frame assembler sends: never the reserved one (42_frame_assembler R150). -/
inductive SendKind where
  | data
  | ack
  | nak
deriving DecidableEq, Repr, Inhabited

/-- A frame as its fields (00_scope R18 "Frame", 30_encoding R76). -/
structure Frame where
  kind : Kind
  seq : Seq
  ack : Seq
  payload : Packet
  hasp : Bool
deriving DecidableEq, Repr, Inhabited

/-- A frame as it stands on the transmit or receive port: header, payload field, payload-present bit
(30_encoding R76, 44 R200). -/
structure FrameWord where
  hdr : BitVec 8
  payload : Packet
  hasp : Bool
deriving DecidableEq, Repr, Inhabited

/-- The item at the head of the receive port (44 R202): a good frame, or a checksum-error indication
(whose other fields are ignored; log 18). -/
inductive RxItem where
  | frame (f : FrameWord)
  | err
deriving DecidableEq, Repr, Inhabited

/-- The event sources the arbiter chooses among (60_exceptions R226): the upper layer's offer, the
receive port (FRAME_ARRIVAL or CKSUM_ERR, as its head item says), the retransmit timer of a slot, and
the acknowledgement-delay timer. -/
inductive Source where
  | upper
  | receive
  | retransmit (e : Slot)
  | ackDelay
deriving DecidableEq, Repr, Inhabited

/-- One move of one agent (00_scope R13, 44 R211). -/
inductive Move where
  /-- The engine takes the event of this source: the arbiter's choice (60_exceptions R227). -/
  | take (src : Source)
  /-- A test bench drives this dispatch word, with this selected timer slot, into the decoder
  (95_test_vectors 4.9). No port of the block does this (92 D39); log 10. -/
  | drive (ev : BitVec 8) (e : Slot)
  /-- The time source delivers one tick (44 R208). -/
  | tick
  /-- Reset is applied (44 R209). -/
  | rst
  /-- The upper layer starts offering a packet (44 R211(b)). -/
  | offer (p : Packet)
  /-- The transport puts an item at the head of the empty receive port (44 R211(a)). -/
  | present (x : RxItem)
deriving DecidableEq, Repr, Inhabited

end Sys2Proof
end

