-- ==== Sys2Proof/Config.lean ====
section
/-! DEFINITION. The build-time constants and configuration parameters of the block (00_scope R6 to R11,
10_state R36) and the free value that stands for the choices the spec leaves OPEN. -/

namespace Sys2Proof

/-- `MAX_SEQ` (00_scope R6). -/
abbrev Config.maxSeq : Nat := 7

/-- `NR_BUFS = (MAX_SEQ + 1) / 2` (00_scope R7). -/
abbrev Config.nrBufs : Nat := 4

/-- `T_RTX` and `T_ACK` in time units, the configuration parameters of the block: the defaults are 300 and
150, and each is at least 1 (00_scope R8). A block is built with one value of this type; the machine
holds it in `State.timeouts`, so that every statement is about every choice of timeouts (DESIGN CHOICE,
safe, log 2). -/
structure Timeouts where
  /-- `T_RTX`, default `RETRANSMIT_TIMEOUT = 300`. -/
  rtx : Nat := 300
  /-- `T_ACK`, default `ACK_TIMEOUT = 150`. -/
  ack : Nat := 150
  /-- The constraint `T_RTX >= 1`. -/
  rtx_pos : 1 ≤ rtx := by decide
  /-- The constraint `T_ACK >= 1`. -/
  ack_pos : 1 ≤ ack := by decide
deriving DecidableEq, Repr

/-- The default timeouts (00_scope R8). -/
def Config.timeouts : Timeouts := {}

/-- The free choice of which agent moves next and how, when the agenda names no move: the arbiter's
choice `ARB` (00_scope R11), the free interleaving (00_scope R13) and the environment's liberties
(44 R211, R212). It has no body that a proof can see, so a statement holds for every choice. It is
applied to the counter `State.turn`. DESIGN CHOICE, safe (log 4). -/
opaque Config.freeMove : Nat → Move

end Sys2Proof
end

