-- ==== Sys2Proof/WellFormed.lean ====
section
/-! DEFINITION. Which instructions and which transmitted frames are well formed. -/

namespace Sys2Proof

/-- Every term of `Instr` is encodable: the one operand, `TIMEOUT`'s sequence number, has exactly the
eight values its 3-bit field holds (30_encoding R75, R82). -/
def Instr.wellFormed : Instr → Bool
  | .nlr | .faData | .faAck | .faNak | .faRsvd | .cksum | .timeout _ | .ackto | .rsvd5 | .rsvd6
  | .rsvd7 => true

/-- A frame as a conforming frame assembler sends it: one of the three defined kinds (30_encoding
R77), a payload exactly when it is DATA, and `SEQ = 0`, `PAYLOAD = 0` otherwise (30_encoding R79,
42_frame_assembler R153). -/
def Frame.wellFormed (f : Frame) : Bool :=
  match f.kind with
  | .data => f.hasp
  | .ack | .nak => !f.hasp && f.payload == Packet.zero && f.seq == 0
  | .rsvd => false

end Sys2Proof
end

