-- ==== Sys2Proof/Decode.lean ====
section
/-! DEFINITION. The dispatch word and the frame header, read and written (30_encoding). -/

namespace Sys2Proof

/-- `ETYPE`, bits `[2:0]` of the dispatch word (30_encoding R71). -/
def etype (ev : BitVec 8) : BitVec 3 := ev.extractLsb' 0 3

/-- `FKIND`, bits `[4:3]` of the dispatch word (30_encoding R71). -/
def fkind (ev : BitVec 8) : BitVec 2 := ev.extractLsb' 3 2

/-- `ARG`, bits `[7:5]` of the dispatch word (30_encoding R71). -/
def arg (ev : BitVec 8) : BitVec 3 := ev.extractLsb' 5 3

/-- The dispatch word with these fields: `ARG`, `FKIND`, `ETYPE` from the most significant bit down
(30_encoding R71). -/
def dispatchWord (a : BitVec 3) (k : BitVec 2) (t : BitVec 3) : BitVec 8 := a ++ k ++ t

/-- The frame kind a 2-bit code stands for (30_encoding R73, R77). -/
def kindOfCode (c : BitVec 2) : Kind :=
  match (c.toFin : Fin 4) with
  | 0 => .data
  | 1 => .ack
  | 2 => .nak
  | 3 => .rsvd

/-- The 2-bit code of a frame kind (30_encoding R77). -/
def Kind.code : Kind → BitVec 2
  | .data => 0b00#2
  | .ack => 0b01#2
  | .nak => 0b10#2
  | .rsvd => 0b11#2

/-- The decoder of the dispatch word, total on all 256 words (30_encoding R81, R82). -/
def decode (ev : BitVec 8) : Instr :=
  match ((etype ev).toFin : Fin 8) with
  | 0 => .nlr
  | 1 =>
    match kindOfCode (fkind ev) with
    | .data => .faData
    | .ack => .faAck
    | .nak => .faNak
    | .rsvd => .faRsvd
  | 2 => .cksum
  | 3 => .timeout (arg ev)
  | 4 => .ackto
  | 5 => .rsvd5
  | 6 => .rsvd6
  | 7 => .rsvd7

/-- Why bytes are no instruction: the only reason is that there is no dispatch word to read
(30_encoding R82: no 8-bit word is refused). -/
inductive DecodeError where
  | noDispatchWord
deriving DecidableEq, Repr

/-- Reads one instruction from bytes: every dispatch word is one byte long (30_encoding R71). -/
def decodeBytes : List (BitVec 8) → Except DecodeError (Instr × List (BitVec 8))
  | [] => .error .noDispatchWord
  | ev :: rest => .ok (decode ev, rest)

/-- The dispatch word the arbiter forms for an instruction: a field it does not use is 0
(30_encoding R72, R73, R75, R81; log 18). -/
def encode : Instr → BitVec 8
  | .nlr => dispatchWord 0 0 0b000
  | .faData => dispatchWord 0 0b00 0b001
  | .faAck => dispatchWord 0 0b01 0b001
  | .faNak => dispatchWord 0 0b10 0b001
  | .faRsvd => dispatchWord 0 0b11 0b001
  | .cksum => dispatchWord 0 0 0b010
  | .timeout q => dispatchWord q 0 0b011
  | .ackto => dispatchWord 0 0 0b100
  | .rsvd5 => dispatchWord 0 0 0b101
  | .rsvd6 => dispatchWord 0 0 0b110
  | .rsvd7 => dispatchWord 0 0 0b111

/-- The bytes of an instruction. -/
def encodeBytes (i : Instr) : List (BitVec 8) := [encode i]

/-- A dispatch word the block's own arbiter may form: no reserved `ETYPE`, `FKIND = 0` unless the
event is FRAME_ARRIVAL, `ARG = 0` unless it is TIMEOUT (30_encoding R73, R75; 60_exceptions R227). -/
def arbiterFormed (ev : BitVec 8) : Bool :=
  decide ((etype ev).toNat ≤ 4) && (etype ev == 0b001#3 || fkind ev == 0#2)
    && (etype ev == 0b011#3 || arg ev == 0#3)

/-- One row of the opcode map (30_encoding R81): a word belongs to the row when its bits under the
mask are the row's match value. -/
structure OpcodeRow where
  mnemonic : String
  pattern : BitVec 8
  mask : BitVec 8
deriving DecidableEq, Repr

/-- Does the word belong to the row? -/
def OpcodeRow.covers (r : OpcodeRow) (ev : BitVec 8) : Bool := (ev &&& r.mask) == r.pattern

/-- The opcode map of 30_encoding R81, in the table's order. -/
def opcodeRows : List OpcodeRow :=
  [⟨"NLR", 0x00, 0x07⟩, ⟨"FA.DATA", 0x01, 0x1F⟩, ⟨"FA.ACK", 0x09, 0x1F⟩, ⟨"FA.NAK", 0x11, 0x1F⟩,
   ⟨"FA.RSVD", 0x19, 0x1F⟩, ⟨"CKSUM", 0x02, 0x07⟩, ⟨"TIMEOUT", 0x03, 0x07⟩, ⟨"ACKTO", 0x04, 0x07⟩,
   ⟨"RSVD5", 0x05, 0x07⟩, ⟨"RSVD6", 0x06, 0x07⟩, ⟨"RSVD7", 0x07, 0x07⟩]

/-- The mnemonic of an instruction (30_encoding R81). -/
def Instr.mnemonic : Instr → String
  | .nlr => "NLR"
  | .faData => "FA.DATA"
  | .faAck => "FA.ACK"
  | .faNak => "FA.NAK"
  | .faRsvd => "FA.RSVD"
  | .cksum => "CKSUM"
  | .timeout _ => "TIMEOUT"
  | .ackto => "ACKTO"
  | .rsvd5 => "RSVD5"
  | .rsvd6 => "RSVD6"
  | .rsvd7 => "RSVD7"

/-- The bytes of an instruction of `nbits` table bits: its low byte first. -/
def tableBytes (nbits w : Nat) : List (BitVec 8) :=
  (List.range ((nbits + 7) / 8)).map fun k => BitVec.ofNat 8 (w % 2 ^ nbits / 256 ^ k)

/-- The instruction the decoder reads from an opcode-table word, when that one instruction is all the
word holds. -/
def decodeTableWord (nbits w : Nat) : Option Instr :=
  match decodeBytes (tableBytes nbits w) with
  | .ok (i, []) => some i
  | _ => none

/-- `f.kind = hdr[1:0]` (30_encoding R78). -/
def FrameWord.kind (f : FrameWord) : Kind := kindOfCode (f.hdr.extractLsb' 0 2)

/-- `f.seq = hdr[4:2]` (30_encoding R78). -/
def FrameWord.seq (f : FrameWord) : Seq := f.hdr.extractLsb' 2 3

/-- `f.ack = hdr[7:5]` (30_encoding R78). -/
def FrameWord.ack (f : FrameWord) : Seq := f.hdr.extractLsb' 5 3

/-- The frame header: `ACK` in bits `[7:5]`, `SEQ` in `[4:2]`, `KIND` in `[1:0]` (30_encoding R76). -/
def frameHeader (k : Kind) (seq ack : Seq) : BitVec 8 := ack ++ seq ++ k.code

/-- The frame on a port (30_encoding R76). -/
def Frame.toWord (f : Frame) : FrameWord :=
  { hdr := frameHeader f.kind f.seq f.ack, payload := f.payload, hasp := f.hasp }

/-- The fields of a frame on a port (30_encoding R78). -/
def FrameWord.toFrame (f : FrameWord) : Frame :=
  { kind := f.kind, seq := f.seq, ack := f.ack, payload := f.payload, hasp := f.hasp }

end Sys2Proof
end

