-- ==== Sys2Proof/Machine/SeqArith.lean ====
section
/-! DEFINITION. The sequence-arithmetic unit: combinational, no state, no flag, no exception
(40_sequence_arithmetic). -/

namespace Sys2Proof.Machine

/-- `inc(n) = (n + 1) mod (MAX_SEQ + 1)` (40 R100). -/
def inc (n : Seq) : Seq := BitVec.ofNat 3 ((n.toNat + 1) % (Config.maxSeq + 1))

/-- `dec(n) = (n + MAX_SEQ) mod (MAX_SEQ + 1)` (40 R101). -/
def dec (n : Seq) : Seq := BitVec.ofNat 3 ((n.toNat + Config.maxSeq) % (Config.maxSeq + 1))

/-- `between(a, x, b)`: is `x` in the circular half-open interval `[a, b)`? The exact formula of 40
R102 (90_conflicts C1). -/
def between (a x b : Seq) : Bool :=
  (decide (a.toNat ≤ x.toNat) && decide (x.toNat < b.toNat))
    || (decide (b.toNat < a.toNat) && decide (a.toNat ≤ x.toNat))
    || (decide (b.toNat < a.toNat) && decide (x.toNat < b.toNat))

/-- `slot(q) = q mod NR_BUFS` (40 R106, 20_memory R51). -/
def slot (q : Seq) : Slot := ⟨q.toNat % Config.nrBufs, Nat.mod_lt _ (by decide)⟩

/-- `(x - y) mod (MAX_SEQ + 1)`, the modular difference (00_scope R15, 90_conflicts C2). -/
def seqDiff (x y : Seq) : Nat := (x.toNat + (Config.maxSeq + 1) - y.toNat) % (Config.maxSeq + 1)

end Sys2Proof.Machine
end

