-- ==== Sys2Proof/Machine/State.lean ====
section
/-! DEFINITION. Everything the spec gives the machine (10_state R20), the ports held between steps
(44 R200), and the model's own fields that carry the choices the spec leaves open. -/

namespace Sys2Proof.Machine

/-- The control state (10_state R21). -/
inductive Ctl where
  /-- The engine waits for, or is about to take, an eligible event. -/
  | wait
  /-- A fault was raised (60_exceptions R224); only reset leaves this state. -/
  | faulted
deriving DecidableEq, Repr, Inhabited

/-- A timer's down-counter. Its width `TIMER_W` follows from the timeouts the block is built with
(00_scope R10, `timerWidth`); that every count fits it is an invariant (`TimersOk`). -/
abbrev Count := Nat

/-- One entry of the retransmit-timer table `RTX` (10_state R29). -/
structure RtxEntry where
  armed : Bool
  tag : Seq
  count : Count
  pending : Bool
deriving DecidableEq, Repr, Inhabited

/-- The acknowledgement-delay timer `ACKT` (10_state R30). -/
structure AckTimer where
  armed : Bool
  count : Count
  pending : Bool
deriving DecidableEq, Repr, Inhabited

/-- A timer entry at reset (10_state R29, R40). -/
def RtxEntry.idle : RtxEntry := { armed := false, tag := 0, count := 0, pending := false }

/-- The idle acknowledgement-delay timer (10_state R30, R40; also what `cancel_ack_delay` leaves). -/
def AckTimer.idle : AckTimer := { armed := false, count := 0, pending := false }

/-- A slot buffer as (slot, packet) pairs with rising slot numbers. A slot that is not listed holds no
value (10_state R28, 00_scope R17). DESIGN CHOICE of the representation, safe (log 7). -/
abbrev Memory := List (Nat × Packet)

/-- The causes of a fault (60_exceptions R221). -/
inductive FaultCause where
  /-- `arm_retransmit` found its slot live with another tag (41 R124). -/
  | slotReuse
  /-- A buffer slot that holds no value was read (60_exceptions R225). -/
  | unwrittenSlot
deriving DecidableEq, Repr, Inhabited

/-- The causes of an anomaly (60_exceptions R221). -/
inductive AnomalyCause where
  | unrecognizedEvent
  | rsvdKind
deriving DecidableEq, Repr, Inhabited

/-- One output action of a step (44 R201). -/
inductive Output where
  /-- `nl_take`: the offered packet is taken. -/
  | takeNl
  /-- `rx_take`: the receive port's head item is consumed. -/
  | takeRx
  /-- `tx_valid` with `tx_hdr`, `tx_payload`, `tx_hasp`. -/
  | tx (f : FrameWord)
  /-- `dl_valid` with `dl_packet`. -/
  | deliver (p : Packet)
  /-- `cr_valid` with the 3-bit `cr_n`. -/
  | grant (n : BitVec 3)
  /-- `anom_valid` with the 2-bit `anom_cause`. -/
  | anomaly (cause : BitVec 2)
deriving DecidableEq, Repr, Inhabited

/-- The reasons a step of the model stops although the hardware would not. The spec's own faults are
no such reason: they are states with `ctl = FAULTED` (60_exceptions R224). -/
inductive Fault where
  /-- Raised by an agenda move of the environment that 44 R212 says it never makes (an item presented
  on an occupied receive port, a packet offered over an offered one). Safe: the model has no run
  beyond it (93 section 4; log 9). -/
  | dutyBroken
deriving DecidableEq, Repr, Inhabited

/-- The reasons a step of the model is not taken. -/
inductive Refusal where
  /-- Raised by `exec` for an instruction that has no meaning yet; no arm does so now. Safe. -/
  | notModelled (mnemonic : String)
  /-- Raised when the event an agenda names is not eligible in this state, `FAULTED` included
  (60_exceptions R226, 30_encoding R84, 93 section 4 "refuse"). Safe: no such step exists (log 9). -/
  | notEligible
deriving DecidableEq, Repr, Inhabited

/-- The state of the block and of its ports. -/
structure State where
  /-- Control state (10_state R21). -/
  ctl : Ctl
  /-- `AE`, ack_expected (10_state R22). -/
  ae : Seq
  /-- `NFTS`, next_frame_to_send (10_state R23). -/
  nfts : Seq
  /-- `FE`, frame_expected (10_state R24). -/
  fe : Seq
  /-- `NO_NAK`: no NAK is outstanding and one may be sent (10_state R26). -/
  noNak : Bool
  /-- `ARRIVED[0..3]` (10_state R27). -/
  arrived : Quad Bool
  /-- `IN_BUF[0..3]` (10_state R28). -/
  inBuf : Memory
  /-- `OUT_BUF[0..3]` (10_state R28). -/
  outBuf : Memory
  /-- `RTX[0..3]` (10_state R29). -/
  rtx : Quad RtxEntry
  /-- `ACKT` (10_state R30). -/
  ackt : AckTimer
  /-- `ANOM`, sticky (10_state R32). -/
  anom : Bool
  /-- `FCAUSE`: 0 no fault, 1 SLOT_REUSE, 2 UNWRITTEN_SLOT, 3 never written (10_state R33). -/
  fcause : BitVec 2
  /-- The upper-layer port `nl_valid`, `nl_packet`: the packet offered, if any (44 R205). -/
  nl : Option Packet
  /-- The receive port `rx_*`: its head item, if any (44 R202). -/
  rx : Option RxItem
  /-- The ordered output actions of the most recent step (44 R201); log 6. -/
  out : List Output
  /-- Model's own: the slot of the timer entry the arbiter selected for a TIMEOUT (30_encoding R75,
  43 R187); log 11. -/
  sel : Slot
  /-- Model's own: the agent moves still to be made, in order (00_scope R13, R11; 30_encoding R83);
  log 3. -/
  agenda : List Move
  /-- Model's own: the index of the next free choice, `Config.freeMove` (log 4). -/
  turn : Nat
  /-- Configuration, not state of the block (10_state R36, R38): the timeouts it is built with (00_scope R8).
  No step writes it; log 2. -/
  timeouts : Timeouts
deriving DecidableEq, Repr

/-- The machine built with these timeouts, right after reset (10_state R40, 70_reset R240), having emitted
`GRANT(NR_BUFS)` (70_reset R241). The ports are empty (70_reset R242 describes this case) and the model's
own fields are 0 or empty: DESIGN CHOICE, unsafe for the ports (log 5), safe for the others
(log 3, 4, 11). -/
def State.resetWith (t : Timeouts) : State :=
  { ctl := .wait
    ae := 0
    nfts := 0
    fe := 0
    noNak := true
    arrived := Quad.fill false
    inBuf := []
    outBuf := []
    rtx := Quad.fill RtxEntry.idle
    ackt := AckTimer.idle
    anom := false
    fcause := 0
    nl := none
    rx := none
    out := [.grant 4]
    sel := 0
    agenda := []
    turn := 0
    timeouts := t }

/-- The machine with the default timeouts (00_scope R8), right after reset. -/
def State.reset : State := State.resetWith Config.timeouts

end Sys2Proof.Machine
end

