-- ==== Sys2Proof/Machine/Ops.lean ====
section
/-! DEFINITION. The named operations over memory, registers and ports, the flow of a step, and taking
an exception (60_exceptions R222, R224) and leaving it (R224, 70_reset R240). -/

namespace Sys2Proof.Machine

/-! ### Memory -/

/-- `MemRead`: the packet in the slot, or no value (20_memory R52). -/
def Memory.read (m : Memory) (e : Slot) : Option Packet :=
  match m with
  | [] => none
  | (a, p) :: rest => if a = e.val then some p else Memory.read rest e

/-- `MemWrite`: replaces one whole slot, keeping the slot numbers rising (20_memory R52, R55). -/
def Memory.write (m : Memory) (e : Slot) (p : Packet) : Memory :=
  match m with
  | [] => [(e.val, p)]
  | (a, q) :: rest =>
    if e.val < a then (e.val, p) :: (a, q) :: rest
    else if a = e.val then (e.val, p) :: rest
    else (a, q) :: Memory.write rest e p

/-- Slot numbers rise strictly, start no lower than `lo`, and stay below `NR_BUFS`. -/
def Memory.wfFrom (lo : Nat) : Memory → Bool
  | [] => true
  | (a, _) :: rest => decide (lo ≤ a) && decide (a < Config.nrBufs) && Memory.wfFrom (a + 1) rest

/-- The canonical form: strictly rising slot numbers below `NR_BUFS`; equal buffers are equal lists. -/
def Memory.wf (m : Memory) : Bool := Memory.wfFrom 0 m

/-! ### Updates of one piece of state -/

/-- `emit X` (00_scope R16): appends to the step's ordered output list. -/
def State.emit (o : Output) (s : State) : State := { s with out := s.out ++ [o] }

/-- A step's output list starts empty (44 R201). -/
def State.begin (s : State) : State := { s with out := [] }

/-- `AE <- v`. -/
def State.setAe (v : Seq) (s : State) : State := { s with ae := v }

/-- `NFTS <- v`. -/
def State.setNfts (v : Seq) (s : State) : State := { s with nfts := v }

/-- `FE <- v`; `TF` moves with it (10_state R25). -/
def State.setFe (v : Seq) (s : State) : State := { s with fe := v }

/-- `NO_NAK <- v`. -/
def State.setNoNak (v : Bool) (s : State) : State := { s with noNak := v }

/-- `ARRIVED[e] <- v`. -/
def State.setArrived (e : Slot) (v : Bool) (s : State) : State :=
  { s with arrived := s.arrived.set e v }

/-- `MemWrite(IN_BUF, e, p)`. -/
def State.writeIn (e : Slot) (p : Packet) (s : State) : State :=
  { s with inBuf := s.inBuf.write e p }

/-- `MemWrite(OUT_BUF, e, p)`. -/
def State.writeOut (e : Slot) (p : Packet) (s : State) : State :=
  { s with outBuf := s.outBuf.write e p }

/-- `RTX[e] <- v`. -/
def State.setRtx (e : Slot) (v : RtxEntry) (s : State) : State := { s with rtx := s.rtx.set e v }

/-- `ACKT <- v`. -/
def State.setAckt (v : AckTimer) (s : State) : State := { s with ackt := v }

/-- `ANOM <- v`. -/
def State.setAnom (v : Bool) (s : State) : State := { s with anom := v }

/-- What the upper-layer port holds. -/
def State.setNl (v : Option Packet) (s : State) : State := { s with nl := v }

/-- What the receive port holds. -/
def State.setRx (v : Option RxItem) (s : State) : State := { s with rx := v }

/-- The timer slot the arbiter selected. -/
def State.setSel (e : Slot) (s : State) : State := { s with sel := e }

/-- The moves still to be made. -/
def State.setAgenda (l : List Move) (s : State) : State := { s with agenda := l }

/-- The index of the next free choice. -/
def State.setTurn (n : Nat) (s : State) : State := { s with turn := n }

/-! ### Consuming the port items -/

/-- `TAKE_NL`: the offered packet is consumed, at the start of the step (44 R201, R205). -/
def State.takeNl (s : State) : State := (s.begin.setNl none).emit .takeNl

/-- `TAKE_RX`: the receive port's head item is consumed, at the start of the step (44 R201, R202). -/
def State.takeRx (s : State) : State := (s.begin.setRx none).emit .takeRx

/-! ### Exceptions -/

/-- The code `FCAUSE` records (60_exceptions R221). -/
def FaultCause.code : FaultCause → BitVec 2
  | .slotReuse => 1
  | .unwrittenSlot => 2

/-- The code `anom_cause` carries (30_encoding R80, 60_exceptions R221). -/
def AnomalyCause.code : AnomalyCause → BitVec 2
  | .unrecognizedEvent => 0b01
  | .rsvdKind => 0b10

/-- TAKING A FAULT: `FCAUSE <- c`, `ctl <- FAULTED`; nothing is saved and nothing else changes
(60_exceptions R224, R230; log 8). -/
def State.raiseFault (c : FaultCause) (s : State) : State :=
  { s with ctl := .faulted, fcause := c.code }

/-- TAKING AN ANOMALY: `emit ANOMALY(c)`, `ANOM <- 1`; the step ends normally (60_exceptions R222). -/
def State.raiseAnomaly (c : AnomalyCause) (s : State) : State :=
  (s.emit (.anomaly c.code)).setAnom true

/-- RESET, the only way out of `FAULTED` (60_exceptions R224): every piece of state takes its reset
value and `GRANT(NR_BUFS)` is emitted; the receive-port item and the offered packet stay (70_reset
R240, R241; DEDUCED beside 10_state R28, safe, log 15). The timeouts and the model's own fields
are no state of the block and stay. -/
def State.applyReset (s : State) : State :=
  { State.resetWith s.timeouts with
    nl := s.nl
    rx := s.rx
    sel := s.sel
    agenda := s.agenda
    turn := s.turn }

/-! ### The flow of a step -/

/-- How far a handler has come: it goes on, or a fault has ended the step and what was done stands
(60_exceptions R224). -/
inductive Flow where
  | running (s : State)
  | ended (s : State)
deriving DecidableEq, Repr

/-- The next statement of a handler: nothing after the faulting point happens. -/
def Flow.andThen (f : Flow) (k : State → Flow) : Flow :=
  match f with
  | .running s => k s
  | .ended s => .ended s

/-- The state a handler leaves. -/
def Flow.state : Flow → State
  | .running s => s
  | .ended s => s

/-- The step's outcome: a fault of the spec is a state of the machine, so both ways give a next
state (60_exceptions R224). -/
def Flow.outcome (f : Flow) : Host.Outcome State Fault Refusal := .next f.state

/-- `v <- MemRead(BUF, e)`, then the rest; a slot without a value raises `Fault(UNWRITTEN_SLOT)`
(20_memory R52, 60_exceptions R225). -/
def withSlot (m : Memory) (e : Slot) (s : State) (k : Packet → Flow) : Flow :=
  match m.read e with
  | some p => k p
  | none => .ended (s.raiseFault .unwrittenSlot)

end Sys2Proof.Machine
end

