-- ==== Sys2Proof/Machine/Operands.lean ====
section
/-! DEFINITION. What the handlers read: the derived signals, the items at the ports, and the source
conditions with the dispatch word the arbiter forms from them (60_exceptions R226, R227). -/

namespace Sys2Proof.Machine

/-- `TF = (FE + NR_BUFS) mod (MAX_SEQ + 1)` (10_state R25, 90_conflicts C2; log 16). -/
def State.tf (s : State) : Seq :=
  BitVec.ofNat 3 ((s.fe.toNat + Config.nrBufs) % (Config.maxSeq + 1))

/-- The number of outstanding sequence numbers, `(NFTS - AE) mod 8` (40 R107). -/
def State.nout (s : State) : Nat := seqDiff s.nfts s.ae

/-- `CREDIT = NR_BUFS - ((NFTS - AE) mod (MAX_SEQ + 1))` (10_state R31). In a state with more than
`NR_BUFS` outstanding, which no run reaches (70_reset R243), it is 0: DESIGN CHOICE, safe (log 13). -/
def State.credit (s : State) : Nat := Config.nrBufs - s.nout

/-- The packet NETWORK_LAYER_READY takes: the engine waits, a packet is offered, and `CREDIT > 0`
(60_exceptions R226). -/
def State.offered (s : State) : Option Packet :=
  if s.ctl = .wait ∧ 0 < s.credit then s.nl else none

/-- The good frame of this kind at the head of the receive port, while the engine waits
(60_exceptions R226, 43 R173). -/
def State.arriving (k : Kind) (s : State) : Option FrameWord :=
  match s.ctl, s.rx with
  | .wait, some (.frame f) => if f.kind = k then some f else none
  | _, _ => none

/-- Does a checksum-error indication head the receive port, while the engine waits (60_exceptions
R226)? -/
def State.corrupted (s : State) : Bool := decide (s.ctl = .wait ∧ s.rx = some .err)

/-- Has the timer entry of this slot expired, its TIMEOUT not yet taken, while the engine waits
(60_exceptions R226)? -/
def State.expired (e : Slot) (s : State) : Bool :=
  decide (s.ctl = .wait ∧ (s.rtx.get e).pending = true)

/-- Is ACK_TIMEOUT eligible (60_exceptions R226)? -/
def State.ackDue (s : State) : Bool := decide (s.ctl = .wait ∧ s.ackt.pending = true)

/-- The dispatch word the arbiter forms for the event of this source, with the timer slot it selects,
when that event is eligible (60_exceptions R226, R227; 30_encoding R72, R73, R75). -/
def arbitrate (src : Source) (s : State) : Option (BitVec 8 × Slot) :=
  match src with
  | .upper => if s.offered.isSome then some (dispatchWord 0 0 0b000, s.sel) else none
  | .receive =>
    match s.ctl, s.rx with
    | .wait, some (.frame f) => some (dispatchWord 0 (f.hdr.extractLsb' 0 2) 0b001, s.sel)
    | .wait, some .err => some (dispatchWord 0 0 0b010, s.sel)
    | _, _ => none
  | .retransmit e =>
    if s.expired e then some (dispatchWord (s.rtx.get e).tag 0 0b011, e) else none
  | .ackDelay => if s.ackDue then some (dispatchWord 0 0 0b100, s.sel) else none

/-- Is the event of this source eligible (60_exceptions R226)? -/
def eligible (src : Source) (s : State) : Bool := (arbitrate src s).isSome

/-- Makes the source condition of the event this dispatch word names hold, and changes nothing else:
what a fetch of the word needs (60_exceptions R226). For NLR an offer and some credit; for
FRAME_ARRIVAL a good frame of the word's kind; for CKSUM_ERR the indication; for TIMEOUT the expired
timer entry of its sequence number; for ACK_TIMEOUT the expired timer. A reserved word has no source.
DESIGN CHOICE, safe (log 12). -/
def State.raiseSource (ev : BitVec 8) (s : State) : State :=
  let s := { s with ctl := .wait }
  match decode ev with
  | .nlr =>
    { s with
      nl := some (s.nl.getD Packet.zero)
      ae := if 0 < s.credit then s.ae else s.nfts }
  | .faData | .faAck | .faNak | .faRsvd =>
    { s with
      rx := some (.frame { hdr := (0 : BitVec 6) ++ fkind ev, payload := Packet.zero,
                           hasp := decide (fkind ev = 0) }) }
  | .cksum => { s with rx := some .err }
  | .timeout q =>
    s.setRtx (slot q) { armed := false, tag := q, count := 0, pending := true }
  | .ackto => { s with ackt := { armed := false, count := 0, pending := true } }
  | .rsvd5 | .rsvd6 | .rsvd7 => s

/-- The timer slot that goes with a driven dispatch word: TIMEOUT's own slot (43 R187). -/
def sourceSlot (ev : BitVec 8) (s : State) : Slot :=
  match decode ev with
  | .timeout q => slot q
  | _ => s.sel

end Sys2Proof.Machine
end

