-- ==== Sys2Proof/Machine/Flags.lean ====
section
/-! DEFINITION. The flags and the read-only status word (10_state R26, R27, R32, R35). -/

namespace Sys2Proof.Machine

/-- One bit of a flag. -/
def bit (b : Bool) : BitVec 1 := if b then 1 else 0

/-- Four slots' bits, slot 3 the most significant (10_state R35). -/
def slotBits (q : Quad Bool) : BitVec 4 := bit q.s3 ++ bit q.s2 ++ bit q.s1 ++ bit q.s0

/-- `NO_NAK <- 0`, when a NAK is sent (42 R154). -/
def State.suppressNak (s : State) : State := s.setNoNak false

/-- `NO_NAK <- 1`, at each delivery (43 R177). -/
def State.allowNak (s : State) : State := s.setNoNak true

/-- `status_o[31:0]` (10_state R35), a function of the state: it shows no intermediate value of a
step, because a state is what stands between steps. -/
def State.statusO (s : State) : BitVec 32 :=
  bit (decide (s.ctl = .faulted)) ++ bit s.anom
    ++ slotBits (s.rtx.map RtxEntry.pending) ++ slotBits (s.rtx.map RtxEntry.armed)
    ++ bit s.ackt.pending ++ bit s.ackt.armed ++ BitVec.ofNat 3 s.credit ++ slotBits s.arrived
    ++ bit s.noNak ++ s.tf ++ s.fe ++ s.nfts ++ s.ae

end Sys2Proof.Machine
end

