-- ==== Sys2Proof/Machine/Timers.lean ====
section
/-! DEFINITION. The timer manager (41_timer_manager). -/

namespace Sys2Proof.Machine

/-- `TIMER_W`: the least width that holds `max(T_RTX, T_ACK)`; 9 at the defaults (00_scope R10). -/
def timerWidth (t : Timeouts) : Nat := Nat.log2 (max t.rtx t.ack) + 1

/-- A down-counter of `w` bits, one lower (41 R127). At 0, where no run has an armed timer (70_reset R246),
it wraps: DEDUCED, safe (log 14). -/
def countDown (w : Nat) (n : Count) : Count := (n + (2 ^ w - 1)) % 2 ^ w

/-- An entry is live when it is armed or pending (10_state R29). -/
def RtxEntry.live (e : RtxEntry) : Bool := e.armed || e.pending

/-- What `arm_retransmit(q)` writes into the entry (41 R121). -/
def RtxEntry.armedFor (t : Timeouts) (q : Seq) : RtxEntry :=
  { armed := true, tag := q, count := t.rtx, pending := false }

/-- What `arm_ack_delay()` writes (41 R130). -/
def AckTimer.started (t : Timeouts) : AckTimer :=
  { armed := true, count := t.ack, pending := false }

/-- What `cancel_retransmit` leaves of an entry with its tag (41 R126). -/
def RtxEntry.cancelled (e : RtxEntry) : RtxEntry :=
  { e with armed := false, pending := false, count := 0 }

/-- `arm_retransmit(q)`, with the slot-reuse assertion (41 R121, R122, R124). -/
def armRetransmit (q : Seq) (s : State) : Flow :=
  let e := s.rtx.get (slot q)
  if e.live = true ∧ e.tag ≠ q then .ended (s.raiseFault .slotReuse)
  else .running (s.setRtx (slot q) (RtxEntry.armedFor s.timeouts q))

/-- `cancel_retransmit(q)`: acts only on an entry whose tag is `q` (41 R126, 90_conflicts C4). -/
def cancelRetransmit (q : Seq) (s : State) : State :=
  let e := s.rtx.get (slot q)
  if e.tag = q then s.setRtx (slot q) e.cancelled else s

/-- `consume_timeout(e)` (41 R128). -/
def consumeTimeout (e : Slot) (s : State) : State :=
  s.setRtx e { s.rtx.get e with pending := false }

/-- `arm_ack_delay()`: replaces a running or pending instance (41 R130). -/
def armAckDelay (s : State) : State := s.setAckt (AckTimer.started s.timeouts)

/-- `cancel_ack_delay()` (41 R131). -/
def cancelAckDelay (s : State) : State := s.setAckt AckTimer.idle

/-- `consume_ack_timeout()` (41 R132). -/
def consumeAckTimeout (s : State) : State := s.setAckt { s.ackt with pending := false }

/-- One tick on one retransmit entry, with counts of `w` bits (41 R127). -/
def RtxEntry.tick (w : Nat) (e : RtxEntry) : RtxEntry :=
  if e.armed then
    if countDown w e.count = 0 then { e with armed := false, count := 0, pending := true }
    else { e with count := countDown w e.count }
  else e

/-- One tick on the acknowledgement timer, with counts of `w` bits (41 R133). -/
def AckTimer.tick (w : Nat) (t : AckTimer) : AckTimer :=
  if t.armed then
    if countDown w t.count = 0 then { armed := false, count := 0, pending := true }
    else { t with count := countDown w t.count }
  else t

/-- `tick`, the time source's step: every timer at once (41 R127, R133). It also happens in `FAULTED`
(60_exceptions R224), and it emits nothing (log 20). -/
def State.tick (s : State) : State :=
  { s.begin with
    rtx := s.rtx.map (RtxEntry.tick (timerWidth s.timeouts))
    ackt := s.ackt.tick (timerWidth s.timeouts) }

end Sys2Proof.Machine
end

