-- ==== Sys2Proof/Machine/Sender.lean ====
section
/-! DEFINITION. The frame assembler, the only path by which the engine transmits
(42_frame_assembler). -/

namespace Sys2Proof.Machine

/-- The frame kind of a transmission (42 R150). -/
def sentKind : SendKind → Kind
  | .data => .data
  | .ack => .ack
  | .nak => .nak

/-- The DATA frame for `nr` with this packet (42 R151 to R153). -/
def dataFrame (nr : Seq) (p : Packet) (s : State) : Frame :=
  { kind := .data, seq := nr, ack := dec s.fe, payload := p, hasp := true }

/-- An ACK or NAK frame: no payload (42 R151, R153; 30_encoding R79). -/
def controlFrame (k : SendKind) (nr : Seq) (s : State) : Frame :=
  { kind := sentKind k, seq := nr, ack := dec s.fe, payload := Packet.zero, hasp := false }

/-- `send_frame(DATA, nr)`: read the packet, transmit, arm the retransmit timer, cancel the
acknowledgement timer (42 R150, R152, R155, R156, R157). -/
def sendData (nr : Seq) (s : State) : Flow :=
  withSlot s.outBuf (slot nr) s fun p =>
    (armRetransmit nr (s.emit (.tx (dataFrame nr p s).toWord))).andThen fun s =>
      .running (cancelAckDelay s)

/-- `send_frame(ACK, nr)` and `send_frame(NAK, nr)`: a NAK clears `NO_NAK` before transmission
(42 R150, R153, R154, R155, R157). -/
def sendControl (k : SendKind) (nr : Seq) (s : State) : State :=
  let s := if k = .nak then s.suppressNak else s
  cancelAckDelay (s.emit (.tx (controlFrame k nr s).toWord))

/-- `send_frame(kind, nr)` (42 R150). -/
def sendFrame (k : SendKind) (nr : Seq) (s : State) : Flow :=
  match k with
  | .data => sendData nr s
  | .ack => .running (sendControl .ack nr s)
  | .nak => .running (sendControl .nak nr s)

end Sys2Proof.Machine
end

