-- ==== Sys2Proof/Machine/Checksum.lean ====
section
/-! DEFINITION. CKSUM_ERR (43_protocol_engine R185). -/

namespace Sys2Proof.Machine

/-- Send a NAK if none is outstanding (43 R185). -/
def nakIfAllowed (s : State) : Flow := if s.noNak then sendFrame .nak 0 s else .running s

/-- `CKSUM` (43 R185): nothing of the corrupted frame is read. -/
def execCksum (s : State) : Host.Outcome State Fault Refusal :=
  if s.corrupted then (nakIfAllowed s.takeRx).outcome else .refused .notEligible

end Sys2Proof.Machine
end

