-- ==== Sys2Proof/Machine/Acknowledge.lean ====
section
/-! DEFINITION. Acknowledgement processing, run by every FRAME_ARRIVAL of a defined kind
(43_protocol_engine R183, R184). -/

namespace Sys2Proof.Machine

/-- One iteration: cancel the timer of `AE`, advance `AE` (43 R183). -/
def acknowledgeOne (s : State) : State := (cancelRetransmit s.ae s).setAe (inc s.ae)

/-- The `while between(AE, a, NFTS)` loop with its count `n` of iterations. The first argument bounds
the iterations; in every state the loop has ended before 8 of them (40 R104(b)), which is what
`ackProcess` allows: DEDUCED, safe (log 17). -/
def ackLoop : Nat → Seq → Nat → State → Nat × State
  | 0, _, n, s => (n, s)
  | k + 1, a, n, s =>
    if between s.ae a s.nfts then ackLoop k a (n + 1) (acknowledgeOne s) else (n, s)

/-- `if n > 0 then emit GRANT(n)` (43 R184). -/
def grantCredit (n : Nat) (s : State) : State :=
  if 0 < n then s.emit (.grant (BitVec.ofNat 3 n)) else s

/-- `ack_process(a)` (43 R183). -/
def ackProcess (a : Seq) (s : State) : State :=
  let r := ackLoop (Config.maxSeq + 1) a 0 s
  grantCredit r.1 r.2

end Sys2Proof.Machine
end

