-- ==== Sys2Proof/Machine/FrameArrival.lean ====
section
/-! DEFINITION. FRAME_ARRIVAL, one handler for each kind of frame (43_protocol_engine R173 to R184). -/

namespace Sys2Proof.Machine

/-- The NAK-or-delay decision (43 R175). -/
def nakOrDelay (f : FrameWord) (s : State) : Flow :=
  if f.seq ≠ s.fe ∧ s.noNak = true then sendFrame .nak 0 s else .running (armAckDelay s)

/-- Is the frame accepted into the receiver window (43 R176)? -/
def accepts (f : FrameWord) (s : State) : Bool :=
  between s.fe f.seq s.tf && !(s.arrived.get (slot f.seq))

/-- Marks the slot arrived and buffers the payload (43 R176). -/
def storeArrived (f : FrameWord) (s : State) : State :=
  (s.setArrived (slot f.seq) true).writeIn (slot f.seq) f.payload

/-- One iteration of the drain loop with the packet read from `IN_BUF[slot(FE)]` (43 R177). -/
def deliverOne (p : Packet) (s : State) : State :=
  armAckDelay ((((s.emit (.deliver p)).allowNak).setArrived (slot s.fe) false).setFe (inc s.fe))

/-- The drain loop `while ARRIVED[slot(FE)] == 1`. The first argument bounds the iterations: each
clears one of the four bits, so `NR_BUFS` of them always suffice (43 R177): DEDUCED, safe (log 17). -/
def drain : Nat → State → Flow
  | 0, s => .running s
  | k + 1, s =>
    if s.arrived.get (slot s.fe) then
      withSlot s.inBuf (slot s.fe) s fun p => drain k (deliverOne p s)
    else .running s

/-- Acceptance and drain (43 R176, R177). -/
def acceptFrame (f : FrameWord) (s : State) : Flow :=
  if accepts f s then drain Config.nrBufs (storeArrived f s) else .running s

/-- `FA.DATA` (43 R174; order R182). -/
def execFaData (s : State) : Host.Outcome State Fault Refusal :=
  match s.arriving .data with
  | some f =>
    ((nakOrDelay f s.takeRx).andThen fun s =>
      (acceptFrame f s).andThen fun s => .running (ackProcess f.ack s)).outcome
  | none => .refused .notEligible

/-- `FA.ACK` (43 R178). -/
def execFaAck (s : State) : Host.Outcome State Fault Refusal :=
  match s.arriving .ack with
  | some f => (Flow.running (ackProcess f.ack s.takeRx)).outcome
  | none => .refused .notEligible

/-- The NAK resend: the one frame the NAK requests, if it is outstanding (43 R179, R180). -/
def resendRequested (a : Seq) (s : State) : Flow :=
  if between s.ae (inc a) s.nfts then sendFrame .data (inc a) s else .running s

/-- `FA.NAK` (43 R179, R180; order R182). -/
def execFaNak (s : State) : Host.Outcome State Fault Refusal :=
  match s.arriving .nak with
  | some f =>
    ((resendRequested f.ack s.takeRx).andThen fun s => .running (ackProcess f.ack s)).outcome
  | none => .refused .notEligible

/-- `FA.RSVD` (43 R181): the frame is consumed, nothing of it is processed. -/
def execFaRsvd (s : State) : Host.Outcome State Fault Refusal :=
  match s.arriving .rsvd with
  | some _ => (Flow.running (s.takeRx.raiseAnomaly .rsvdKind)).outcome
  | none => .refused .notEligible

end Sys2Proof.Machine
end

