-- ==== Sys2Proof/Machine/NetworkLayer.lean ====
section
/-! DEFINITION. NETWORK_LAYER_READY (43_protocol_engine R172). -/

namespace Sys2Proof.Machine

/-- The handler of NETWORK_LAYER_READY once the packet `p` is fetched: buffer it, send it as DATA,
advance `NFTS` (43 R172). -/
def sendPacket (p : Packet) (s : State) : Flow :=
  (sendFrame .data s.nfts (s.writeOut (slot s.nfts) p)).andThen fun s =>
    .running (s.setNfts (inc s.nfts))

/-- `NLR` (43 R172). -/
def execNlr (s : State) : Host.Outcome State Fault Refusal :=
  match s.offered with
  | some p => (sendPacket p s.takeNl).outcome
  | none => .refused .notEligible

end Sys2Proof.Machine
end

