-- ==== Sys2Proof/Machine/TimerEvents.lean ====
section
/-! DEFINITION. TIMEOUT and ACK_TIMEOUT (43_protocol_engine R187, R188). -/

namespace Sys2Proof.Machine

/-- `TIMEOUT q` (43 R187): `q` is the tag of the expired entry the arbiter selected (`sel`); it is
consumed and the frame `q` is resent, outstanding or not (92 D32). -/
def execTimeout (q : Seq) (s : State) : Host.Outcome State Fault Refusal :=
  if s.expired s.sel = true ∧ (s.rtx.get s.sel).tag = q then
    (sendFrame .data q (consumeTimeout s.sel s.begin)).outcome
  else .refused .notEligible

/-- `ACKTO` (43 R188). -/
def execAckto (s : State) : Host.Outcome State Fault Refusal :=
  if s.ackDue then (sendFrame .ack 0 (consumeAckTimeout s.begin)).outcome
  else .refused .notEligible

end Sys2Proof.Machine
end

