-- ==== Sys2Proof/Machine/Unrecognized.lean ====
section
/-! DEFINITION. The unrecognized events (43_protocol_engine R189). -/

namespace Sys2Proof.Machine

/-- The unrecognized event: an anomaly, no port consumed, nothing else changed (43 R189). It has no
source condition; the engine must wait to take it (60_exceptions R226: no event in `FAULTED`). -/
def unrecognizedEvent (s : State) : Host.Outcome State Fault Refusal :=
  if s.ctl = .wait then (Flow.running (s.begin.raiseAnomaly .unrecognizedEvent)).outcome
  else .refused .notEligible

/-- `RSVD5` (43 R189). -/
def execRsvd5 (s : State) : Host.Outcome State Fault Refusal := unrecognizedEvent s

/-- `RSVD6` (43 R189). -/
def execRsvd6 (s : State) : Host.Outcome State Fault Refusal := unrecognizedEvent s

/-- `RSVD7` (43 R189). -/
def execRsvd7 (s : State) : Host.Outcome State Fault Refusal := unrecognizedEvent s

end Sys2Proof.Machine
end

