-- ==== Sys2Proof/Machine/Dispatch.lean ====
section
/-! DEFINITION. One arm per instruction (30_encoding R81). -/

namespace Sys2Proof.Machine

/-- One engine step: the handler of the event that was decoded (43 R170). -/
def exec (i : Instr) (s : State) : Host.Outcome State Fault Refusal :=
  match i with
  | .nlr => Sys2Proof.Machine.execNlr s
  | .faData => Sys2Proof.Machine.execFaData s
  | .faAck => Sys2Proof.Machine.execFaAck s
  | .faNak => Sys2Proof.Machine.execFaNak s
  | .faRsvd => Sys2Proof.Machine.execFaRsvd s
  | .cksum => Sys2Proof.Machine.execCksum s
  | .timeout q => Sys2Proof.Machine.execTimeout q s
  | .ackto => Sys2Proof.Machine.execAckto s
  | .rsvd5 => Sys2Proof.Machine.execRsvd5 s
  | .rsvd6 => Sys2Proof.Machine.execRsvd6 s
  | .rsvd7 => Sys2Proof.Machine.execRsvd7 s

end Sys2Proof.Machine
end

