-- ==== Sys2Proof/Machine/Agents.lean ====
section
/-! DEFINITION. The moves of the agents (00_scope R13, 44_external_interfaces R211): the engine with
its arbiter, the time source, reset, the upper layer and the transport. -/

namespace Sys2Proof.Machine

/-- The upper layer starts offering a packet, when it offers none (44 R205, R211(b)); an offered
packet stays stable until it is taken (44 R212). -/
def offerPacket (p : Packet) (s : State) : Host.Outcome State Fault Refusal :=
  match s.nl with
  | none => .next (s.begin.setNl (some p))
  | some _ => .fault .dutyBroken

/-- The transport puts an item at the head of the receive port, when it is empty (44 R202, R211(a)); an
item stays there until it is taken (44 R212). -/
def presentItem (x : RxItem) (s : State) : Host.Outcome State Fault Refusal :=
  match s.rx with
  | none => .next (s.begin.setRx (some x))
  | some _ => .fault .dutyBroken

/-- The engine takes the event of this source: the arbiter forms its dispatch word, the decoder reads
it, the handler runs (43 R170). -/
def takeEvent (src : Source) (s : State) : Host.Outcome State Fault Refusal :=
  match arbitrate src s with
  | some (ev, e) => exec (decode ev) (s.setSel e)
  | none => .refused .notEligible

/-- A dispatch word is driven into the decoder (95_test_vectors 4.9; log 10). -/
def driveWord (ev : BitVec 8) (e : Slot) (s : State) : Host.Outcome State Fault Refusal :=
  exec (decode ev) (s.setSel e)

/-- One move of one agent (00_scope R13). -/
def makeMove (m : Move) (s : State) : Host.Outcome State Fault Refusal :=
  match m with
  | .take src => takeEvent src s
  | .drive ev e => driveWord ev e s
  | .tick => .next s.tick
  | .rst => .next s.applyReset
  | .offer p => offerPacket p s
  | .present x => presentItem x s

/-- May the agent make this move now? No agent of the hardware drives the decoder (60_exceptions
R227, 92 D39). -/
def enabled (m : Move) (s : State) : Bool :=
  match m with
  | .take src => eligible src s
  | .drive _ _ => false
  | .tick => true
  | .rst => true
  | .offer _ => s.nl.isNone
  | .present _ => s.rx.isNone

/-- The next free move: the agent it names makes it if it may; if it may not, nothing happens in this
turn (the engine waits, 43 R170). DESIGN CHOICE, safe (log 4). -/
def freeStep (s : State) : Host.Outcome State Fault Refusal :=
  let m := Config.freeMove s.turn
  let s := s.setTurn (s.turn + 1)
  if enabled m s then makeMove m s else .next s.begin

/-- One step of the machine: the agenda's next move, or a free one when the agenda is empty. -/
def agentStep (s : State) : Host.Outcome State Fault Refusal :=
  match s.agenda with
  | m :: rest => makeMove m (s.setAgenda rest)
  | [] => freeStep s

/-- The state whose next step drives this dispatch word into the decoder with its source condition
holding (log 12). -/
def State.scheduleWord (ev : BitVec 8) (s : State) : State :=
  let s := s.raiseSource ev
  s.setAgenda (.drive ev (sourceSlot ev s) :: s.agenda)

end Sys2Proof.Machine
end

