-- ==== Sys2Proof/Machine/Step.lean ====
section
/-! DEFINITION. One step of the machine, and the state that makes the next step run a given word. -/

namespace Sys2Proof.Machine

/-- One step: one agent makes one move (00_scope R13). -/
def step (s : State) : Host.Outcome State Fault Refusal := agentStep s

/-- `s` with the instruction of an opcode-table word where the next step takes it: the event's source
condition holds and the dispatch word heads the agenda (log 12). -/
def State.withFetchWord (s : State) (nbits w : Nat) : State :=
  s.scheduleWord ((tableBytes nbits w).headD 0)

end Sys2Proof.Machine
end

