-- ==== Sys2Proof/Machine/Link.lean ====
section
/-! DEFINITION. Two engines joined by a link with one queue of frames for each direction (60_exceptions
R234, 44_external_interfaces R211(c), R214). It stands beside the machine: `step` is one engine's. DESIGN CHOICE, safe (log 19). -/

namespace Sys2Proof.Machine

/-- The two ends of a link. -/
inductive Side where
  | a
  | b
deriving DecidableEq, Repr, Inhabited

/-- Two engines, each with its own complete state, and the frames in transit in each direction, the
oldest first (60_exceptions R234). -/
structure Pair where
  a : State
  b : State
  ab : List FrameWord
  ba : List FrameWord
deriving DecidableEq, Repr

/-- One move of the pair: an engine or its upper layer, the time source, or the link, which may lose,
corrupt, delay past later frames, or (44 R214) repeat a frame. -/
inductive LinkMove where
  /-- The engine of this side takes an event, is reset, or is offered a packet. -/
  | engine (side : Side) (m : Move)
  /-- One tick for both engines. -/
  | tick
  /-- The oldest frame towards this side heads its empty receive port. -/
  | deliver (dest : Side)
  /-- The oldest frame towards this side arrives corrupted: a checksum-error indication. -/
  | corrupt (dest : Side)
  /-- The oldest frame towards this side is lost. -/
  | drop (dest : Side)
  /-- The frame at position `k` towards this side overtakes those before it. -/
  | overtake (dest : Side) (k : Nat)
  /-- The oldest frame towards this side is repeated in place. -/
  | duplicate (dest : Side)
deriving DecidableEq, Repr, Inhabited

/-- The engine of a side. -/
def Pair.engine (p : Pair) : Side → State
  | .a => p.a
  | .b => p.b

/-- The frames in transit towards a side. -/
def Pair.queue (p : Pair) : Side → List FrameWord
  | .a => p.ba
  | .b => p.ab

/-- Replaces the frames in transit towards a side. -/
def Pair.setQueue (p : Pair) (d : Side) (l : List FrameWord) : Pair :=
  match d with
  | .a => { p with ba := l }
  | .b => { p with ab := l }

/-- Replaces the engine of a side; nothing is transmitted. -/
def Pair.setEngine (p : Pair) (d : Side) (s : State) : Pair :=
  match d with
  | .a => { p with a := s }
  | .b => { p with b := s }

/-- The peer of a side. -/
def Side.peer : Side → Side
  | .a => .b
  | .b => .a

/-- The frame an output action transmits, if it is a `TX`. -/
def Output.frame? : Output → Option FrameWord
  | .tx f => some f
  | _ => none

/-- The frames a step transmitted, in order (44 R204). -/
def State.transmitted (s : State) : List FrameWord := s.out.filterMap Output.frame?

/-- The frames in transit after an engine's step: those it transmitted join the queue to its peer. -/
def Pair.afterStep (p : Pair) (side : Side) (t : State) : Pair :=
  (p.setEngine side t).setQueue side.peer (p.queue side.peer ++ t.transmitted)

/-- The moves an engine and its upper layer make in a pair: its receive port belongs to the link, its
ticks to the common time source, and nobody drives its decoder. -/
def ownMove : Move → Bool
  | .take _ => true
  | .offer _ => true
  | .rst => true
  | .tick => false
  | .present _ => false
  | .drive _ _ => false

/-- Puts an item at a side's receive port, taking the head frame out of the queue. -/
def Pair.arrive (p : Pair) (d : Side) (x : RxItem) (rest : List FrameWord) :
    Host.Outcome Pair Fault Refusal :=
  match presentItem x (p.engine d) with
  | .next t => .next ((p.setEngine d t).setQueue d rest)
  | .fault r => .fault r
  | .refused r => .refused r

/-- One step of the pair. -/
def pairStep (m : LinkMove) (p : Pair) : Host.Outcome Pair Fault Refusal :=
  match m with
  | .engine side m =>
    if ownMove m then
      match makeMove m (p.engine side) with
      | .next t => .next (p.afterStep side t)
      | .fault r => .fault r
      | .refused r => .refused r
    else .refused .notEligible
  | .tick => .next { p with a := p.a.tick, b := p.b.tick }
  | .deliver d =>
    match p.queue d with
    | f :: rest => p.arrive d (.frame f) rest
    | [] => .refused .notEligible
  | .corrupt d =>
    match p.queue d with
    | _ :: rest => p.arrive d .err rest
    | [] => .refused .notEligible
  | .drop d =>
    match p.queue d with
    | _ :: rest => .next (p.setQueue d rest)
    | [] => .refused .notEligible
  | .overtake d k =>
    match (p.queue d)[k]? with
    | some f => .next (p.setQueue d (f :: (p.queue d).eraseIdx k))
    | none => .refused .notEligible
  | .duplicate d =>
    match p.queue d with
    | f :: rest => .next (p.setQueue d (f :: f :: rest))
    | [] => .refused .notEligible

/-- Both engines, built with these timeouts, right after reset, the link empty (70_reset R242). -/
def Pair.resetWith (ta tb : Timeouts) : Pair :=
  { a := State.resetWith ta, b := State.resetWith tb, ab := [], ba := [] }

/-- The pair with the default timeouts. -/
def Pair.reset : Pair := Pair.resetWith Config.timeouts Config.timeouts

end Sys2Proof.Machine
end

