-- ==== Sys2Proof/Safety.lean ====
section
/-! DEFINITION. What counts as a safe state: the invariants the spec gives every reachable state
(70_reset R243 to R247), and the predicates claims are stated with. -/

namespace Sys2Proof

/-- Does the packet fit `PAYLOAD_W = w` bits (00_scope R9)? -/
def Packet.fits (w : Nat) (p : Packet) : Prop := p.value < 2 ^ w

/-- Does the receive-port item fit? -/
def RxItem.fits (w : Nat) : RxItem → Prop
  | .frame f => f.payload.fits w
  | .err => True

/-- Does what the environment's move brings in fit? -/
def Move.fits (w : Nat) : Move → Prop
  | .offer p => p.fits w
  | .present x => x.fits w
  | .take _ | .drive _ _ | .tick | .rst => True

/-- Is the frame of a defined kind (30_encoding R77)? -/
def FrameWord.defined (f : FrameWord) : Bool := decide (f.kind ≠ .rsvd)

/-- Is the receive-port item no frame of the reserved kind? -/
def RxItem.defined : RxItem → Bool
  | .frame f => f.defined
  | .err => true

end Sys2Proof

namespace Sys2Proof.Machine

/-- Is `q` outstanding (00_scope R18 "Outstanding frame")? -/
def State.outstanding (s : State) (q : Seq) : Bool := between s.ae q s.nfts

/-- The timer invariants of one retransmit entry: never armed and pending, and a running count in
`1..T_RTX` (70_reset R246(a), (b)), and every count fits `TIMER_W` bits (00_scope R10). -/
def RtxEntry.ok (t : Timeouts) (e : RtxEntry) : Bool :=
  !(e.armed && e.pending) && (!e.armed || (decide (1 ≤ e.count) && decide (e.count ≤ t.rtx)))
    && decide (e.count < 2 ^ timerWidth t)

/-- The same of the acknowledgement timer (70_reset R246(a), (b); 00_scope R10). -/
def AckTimer.ok (t : Timeouts) (a : AckTimer) : Bool :=
  !(a.armed && a.pending) && (!a.armed || (decide (1 ≤ a.count) && decide (a.count ≤ t.ack)))
    && decide (a.count < 2 ^ timerWidth t)

/-- Every timer is sound (70_reset R246(a), (b); 00_scope R10). -/
structure TimersOk (s : State) : Prop where
  entries : ∀ e : Slot, (s.rtx.get e).ok s.timeouts = true
  ack : s.ackt.ok s.timeouts = true

/-- Both buffers keep their canonical form. -/
structure BuffersOk (s : State) : Prop where
  inBuf : s.inBuf.wf = true
  outBuf : s.outBuf.wf = true

/-- The window invariant (70_reset R243(a)). -/
def WindowOk (s : State) : Prop := s.nout ≤ Config.nrBufs

/-- The invariant of every state that a run from reset reaches (70_reset R243, R244, R246, R247), with
its consequence that no fault was ever raised. -/
structure EngineInv (s : State) : Prop where
  /-- No fault was raised (R246, R247). -/
  waiting : s.ctl = .wait
  /-- No fault cause is recorded (R246, R247). -/
  noCause : s.fcause = 0
  /-- R243(a). -/
  window : WindowOk s
  /-- R244(a). -/
  drained : s.arrived.get (slot s.fe) = false
  /-- R247: an arrived slot holds a packet. -/
  arrivedHeld : ∀ e : Slot, s.arrived.get e = true → (s.inBuf.read e).isSome = true
  /-- R246(a), (b). -/
  timers : TimersOk s
  /-- R246(c). -/
  liveOutstanding : ∀ e : Slot, (s.rtx.get e).live = true →
    slot (s.rtx.get e).tag = e ∧ s.outstanding (s.rtx.get e).tag = true
  /-- R246(d). -/
  outstandingLive : ∀ q : Seq, s.outstanding q = true →
    (s.rtx.get (slot q)).live = true ∧ (s.rtx.get (slot q)).tag = q
  /-- R247: an outstanding packet is held. -/
  outstandingHeld : ∀ q : Seq, s.outstanding q = true → (s.outBuf.read (slot q)).isSome = true
  /-- The buffers' canonical form. -/
  buffers : BuffersOk s

/-- Do all packets of a buffer fit? -/
def Memory.fits (w : Nat) (m : Memory) : Prop := ∀ c ∈ m, c.2.fits w

/-- Does the output action fit? -/
def Output.fits (w : Nat) : Output → Prop
  | .tx f => f.payload.fits w
  | .deliver p => p.fits w
  | .takeNl | .takeRx | .grant _ | .anomaly _ => True

/-- Does every packet the block holds fit `PAYLOAD_W = w` bits (00_scope R9, 20_memory R53)? -/
structure PacketsFit (w : Nat) (s : State) : Prop where
  inBuf : s.inBuf.fits w
  outBuf : s.outBuf.fits w
  offer : ∀ p, s.nl = some p → p.fits w
  item : ∀ x, s.rx = some x → x.fits w
  out : ∀ o ∈ s.out, o.fits w

/-- No frame of the reserved kind is in transit or at a receive port, and no anomaly was reported: what
two conforming engines keep (43 R181 "a peer engine never emits this kind"). -/
structure CleanPair (p : Pair) : Prop where
  noAnomA : p.a.anom = false
  noAnomB : p.b.anom = false
  portA : ∀ x, p.a.rx = some x → x.defined = true
  portB : ∀ x, p.b.rx = some x → x.defined = true
  transitAB : ∀ f ∈ p.ab, f.defined = true
  transitBA : ∀ f ∈ p.ba, f.defined = true

/-- `n` ticks in a row (30_encoding R84 `tick n`). -/
def State.ticks : Nat → State → State
  | 0, s => s
  | n + 1, s => State.ticks n s.tick

/-- Is the output action a transmission? -/
def Output.isTx : Output → Bool
  | .tx _ => true
  | _ => false

/-- Is the output action the transmission of a NAK? -/
def Output.isNak : Output → Bool
  | .tx f => decide (f.kind = .nak)
  | _ => false

/-- Is the output action a delivery? -/
def Output.isDeliver : Output → Bool
  | .deliver _ => true
  | _ => false

/-- Is the output action a credit grant? -/
def Output.isGrant : Output → Bool
  | .grant _ => true
  | _ => false

/-- Is the output action an anomaly? -/
def Output.isAnomaly : Output → Bool
  | .anomaly _ => true
  | _ => false

/-- The units of credit an output action grants. -/
def Output.units : Output → Nat
  | .grant n => n.toNat
  | _ => 0

/-- The packet an output action delivers, if it is a delivery. -/
def Output.delivered? : Output → Option Packet
  | .deliver p => some p
  | _ => none

/-- When the handler of an instruction may run: the source condition of its event (60_exceptions R226);
for a reserved event, which has none, that the engine waits. -/
def ready (i : Instr) (s : State) : Prop :=
  s.ctl = .wait ∧
    match i with
    | .nlr => s.nl.isSome = true ∧ s.nout < Config.nrBufs
    | .faData => ∃ f, s.rx = some (.frame f) ∧ f.kind = .data
    | .faAck => ∃ f, s.rx = some (.frame f) ∧ f.kind = .ack
    | .faNak => ∃ f, s.rx = some (.frame f) ∧ f.kind = .nak
    | .faRsvd => ∃ f, s.rx = some (.frame f) ∧ f.kind = .rsvd
    | .cksum => s.rx = some .err
    | .timeout q => (s.rtx.get s.sel).pending = true ∧ (s.rtx.get s.sel).tag = q
    | .ackto => s.ackt.pending = true
    | .rsvd5 | .rsvd6 | .rsvd7 => True

/-- Is the frame accepted into the receiver window (43 R176)? -/
def Accepted (f : FrameWord) (s : State) : Prop :=
  between s.fe f.seq s.tf = true ∧ s.arrived.get (slot f.seq) = false

/-- How many slots in a row, from that of `q` on and at most `k`, are marked arrived: the packets the
drain loop can deliver (43 R177). -/
def runLength : Nat → Quad Bool → Seq → Nat
  | 0, _, _ => 0
  | k + 1, arr, q => if arr.get (slot q) = true then runLength k arr (q + 1#3) + 1 else 0

/-- The bitmap with the first `k` slots from that of `q` on cleared (43 R177). -/
def clearRun : Nat → Quad Bool → Seq → Quad Bool
  | 0, arr, _ => arr
  | k + 1, arr, q => clearRun k (arr.set (slot q) false) (q + 1#3)

/-- The deliveries of the packets in the first `k` slots from that of `q` on (43 R177). -/
def deliveries : Nat → Memory → Seq → List Output
  | 0, _, _ => []
  | k + 1, m, q => ((m.read (slot q)).map Output.deliver).toList ++ deliveries k m (q + 1#3)

/-- What acknowledgement processing does with the value `a`, from state `s` to state `t` (43 R183,
R184): if `a` is outstanding, every entry whose tag lies in `[AE, a]` and in its own slot is cancelled,
`AE` moves just past `a`, and one grant of as many units is emitted; if it is not, nothing happens. -/
structure AckEffect (a : Seq) (s t : State) : Prop where
  ae : t.ae = if between s.ae a s.nfts then a + 1#3 else s.ae
  out : t.out =
    if between s.ae a s.nfts then s.out ++ [.grant (BitVec.ofNat 3 (seqDiff a s.ae + 1))] else s.out
  rtx : ∀ e : Slot, t.rtx.get e =
    if between s.ae a s.nfts = true ∧ slot (s.rtx.get e).tag = e
        ∧ between s.ae (s.rtx.get e).tag (a + 1#3) = true
    then { s.rtx.get e with armed := false, pending := false, count := 0 }
    else s.rtx.get e
  frame : t = { s with ae := t.ae, out := t.out, rtx := t.rtx }

end Sys2Proof.Machine
end

