-- ==== Sys2Proof/Certificates/Slice0/Obligations.lean ====
section
/-! DEFINITION. The statements for the provers. -/

open Sys2Proof Sys2Proof.Machine

/-! ### Sequence arithmetic -/

/-- 40 R100: `inc` is the successor modulo 8; it wraps only at 7. -/
def Obligations.IncrementIsModularSuccessor : Prop :=
  (∀ n : Seq, (inc n).toNat = (n.toNat + 1) % (Config.maxSeq + 1) ∧
    inc n = BitVec.ofNat 3 (n.toNat + 1) ∧ (n.toNat < 7 → (inc n).toNat = n.toNat + 1)) ∧
  inc 7 = 0 ∧ inc 3 = 4

/-- 40 R101: `dec` adds `MAX_SEQ` modulo 8 and undoes `inc`. -/
def Obligations.PredecessorIsModular : Prop :=
  (∀ n : Seq, (dec n).toNat = (n.toNat + Config.maxSeq) % (Config.maxSeq + 1) ∧
    inc (dec n) = n ∧ dec (inc n) = n) ∧
  dec 0 = 7 ∧ dec 4 = 3

/-- 40 R102: `between` is the source's formula, and it holds exactly of the sequence numbers met going
forward from `a`, before `b`. -/
def Obligations.BetweenIsTheCircularInterval : Prop :=
  (∀ a x b : Seq, between a x b = true ↔
    (a.toNat ≤ x.toNat ∧ x.toNat < b.toNat) ∨ (b.toNat < a.toNat ∧ a.toNat ≤ x.toNat) ∨
      (b.toNat < a.toNat ∧ x.toNat < b.toNat)) ∧
  (∀ a x b : Seq, between a x b = true ↔
    ∃ k : Fin 8, k.val < (b.toNat + 8 - a.toNat) % 8 ∧ x = a + BitVec.ofNat 3 k.val) ∧
  between 6 0 2 = true ∧ between 2 6 6 = false

/-- 40 R104: the modular-difference form, and its consequences (a), (b), (c). -/
def Obligations.BetweenCountsDistances : Prop :=
  ∀ a x b : Seq,
    between a x b = decide ((x.toNat + 8 - a.toNat) % 8 < (b.toNat + 8 - a.toNat) % 8) ∧
    ((List.range 8).filter fun y => between a (BitVec.ofNat 3 y) b).length
      = (b.toNat + 8 - a.toNat) % 8 ∧
    (between a x b = true → (between (inc a) x b = true ↔ x ≠ a)) ∧
    (between a a b = true ↔ a ≠ b)

/-- 40 R106: the slot is the low two bits; `q` and `q + 4` share it; four numbers in a row do not. -/
def Obligations.SlotIsTheLowTwoBits : Prop :=
  (∀ q : Seq, (slot q).val = q.toNat % Config.nrBufs ∧ (slot q).val = (q.extractLsb' 0 2).toNat ∧
    slot q = slot (q + 4)) ∧
  (∀ (q : Seq) (j k : Slot),
    slot (q + BitVec.ofNat 3 j.val) = slot (q + BitVec.ofNat 3 k.val) → j = k) ∧
  slot 6 = 2 ∧ slot 2 = 2

/-! ### Encodings -/

/-- 30 R82: every dispatch word matches exactly one row of the opcode map, the decoder reads that row's
instruction, and each word is one byte long. -/
def Obligations.EveryWordMatchesExactlyOneRow : Prop :=
  ∀ ev : BitVec 8,
    (opcodeRows.filter fun r => r.covers ev).map OpcodeRow.mnemonic = [(decode ev).mnemonic] ∧
    ∀ rest, decodeBytes (ev :: rest) = .ok (decode ev, rest)

/-- Words written out from 30 R71 to R75 decode to the instructions they stand for. -/
def Obligations.WrittenWordsDecode : Prop :=
  decode 0b00000000#8 = .nlr ∧ decode 0b00000001#8 = .faData ∧ decode 0b00001001#8 = .faAck ∧
  decode 0b00010001#8 = .faNak ∧ decode 0b00011001#8 = .faRsvd ∧ decode 0b00000010#8 = .cksum ∧
  decode 0b11100011#8 = .timeout 7 ∧ decode 0b00000100#8 = .ackto ∧ decode 0b00000101#8 = .rsvd5 ∧
  decode 0b00000110#8 = .rsvd6 ∧ decode 0b11111111#8 = .rsvd7

/-- Decoding gives back every encoded instruction, alone, before other bytes, and as a table word; and
a dispatch word is the encoding of what it decodes to exactly when the fields its row ignores are 0. -/
def Obligations.DecodeInvertsEncode : Prop :=
  (∀ i : Instr, i.wellFormed = true →
    (∀ rest, decodeBytes (encodeBytes i ++ rest) = .ok (i, rest)) ∧
    decodeTableWord 8 (encode i).toNat = some i) ∧
  (∀ ev : BitVec 8, encode (decode ev) = ev ↔
    (etype ev ≠ 0b001#3 → fkind ev = 0#2) ∧ (etype ev ≠ 0b011#3 → arg ev = 0#3))

/-- 30 R76, R78: the header holds `KIND`, `SEQ` and `ACK` in its fields, and a frame and its port word
determine each other. -/
def Obligations.FrameWordRoundTrip : Prop :=
  (∀ f : Frame, f.toWord.toFrame = f ∧
    f.toWord.hdr.toNat = f.ack.toNat * 32 + f.seq.toNat * 4 + f.kind.code.toNat ∧
    f.toWord.payload = f.payload ∧ f.toWord.hasp = f.hasp) ∧
  (∀ w : FrameWord, w.toFrame.toWord = w)

/-- The arbiter's word for an eligible event decodes to that event's instruction with the operand its
source holds, has 0 in every field the event does not use, and is no reserved word; and the handler it
selects runs (30 R73, R75; 60 R227). -/
def Obligations.ArbiterFormsTheEventsWord : Prop :=
  ∀ (src : Source) (s : State) (ev : BitVec 8) (e : Slot), arbitrate src s = some (ev, e) →
    arbiterFormed ev = true ∧
    (match src with
      | .upper => decode ev = .nlr
      | .receive =>
        (s.rx = some .err ∧ decode ev = .cksum) ∨
        ∃ f, s.rx = some (.frame f) ∧
          decode ev = (match f.kind with
            | .data => .faData | .ack => .faAck | .nak => .faNak | .rsvd => .faRsvd)
      | .retransmit d => e = d ∧ decode ev = .timeout (s.rtx.get d).tag
      | .ackDelay => decode ev = .ackto) ∧
    ∃ t, exec (decode ev) (s.setSel e) = .next t

/-! ### The step -/

/-- 43 R170: when the agenda's next move takes an eligible event, or drives a dispatch word, the step is
`exec` of the decoded instruction, at the state with that move consumed and the selected slot set. -/
def Obligations.StepRunsTheDecodedInstruction : Prop :=
  (∀ (s : State) (ev : BitVec 8) (e : Slot) (rest : List Move), s.agenda = .drive ev e :: rest →
    step s = exec (decode ev) { s with agenda := rest, sel := e }) ∧
  (∀ (s : State) (src : Source) (ev : BitVec 8) (e : Slot) (rest : List Move),
    s.agenda = .take src :: rest → arbitrate src s = some (ev, e) →
    step s = exec (decode ev) { s with agenda := rest, sel := e })

/-- 60 R226: an event is eligible exactly when the engine waits and its source condition holds; a take
of an event that is not eligible is refused (30 R84). -/
def Obligations.EligibleExactlyWhenTheSourceHolds : Prop :=
  (∀ (s : State) (src : Source), eligible src s = true ↔ s.ctl = .wait ∧
    match src with
    | .upper => s.nl.isSome = true ∧ 0 < s.credit
    | .receive => s.rx.isSome = true
    | .retransmit e => (s.rtx.get e).pending = true
    | .ackDelay => s.ackt.pending = true) ∧
  (∀ (s : State) (src : Source) (rest : List Move), s.agenda = .take src :: rest →
    eligible src s = false → step s = .refused .notEligible)

/-- Every handler runs, to a next state, exactly when its event is ready, and is refused otherwise
(60 R226; 93 section 4). -/
def Obligations.HandlersRunExactlyWhenReady : Prop :=
  ∀ (i : Instr) (s : State),
    (ready i s → ∃ t, exec i s = .next t) ∧ (¬ ready i s → exec i s = .refused .notEligible)

/-- 60 R224: in `FAULTED` no instruction runs, and of all the agents' moves that go through only reset
leaves it. -/
def Obligations.OnlyResetLeavesFaulted : Prop :=
  ∀ s : State, s.ctl = .faulted →
    (∀ i : Instr, exec i s = .refused .notEligible) ∧
    (∀ (m : Move) (t : State), makeMove m s = .next t →
      (t.ctl = .wait ↔ m = .rst) ∧ (m ≠ .rst → t.fcause = s.fcause))

/-- With an empty agenda every step goes through: the machine never stops by itself (43 R171, 70 R256;
the free move is the model's, log 4). -/
def Obligations.FreeStepsNeverStop : Prop :=
  ∀ s : State, s.agenda = [] → ∃ t, step s = .next t ∧ t.agenda = [] ∧ t.turn = s.turn + 1

/-- The environment's and the time source's moves change only what is theirs, and emit nothing (44 R205,
R202, R208, R211). The stop of a move that breaks a duty is the model's choice (log 9). -/
def Obligations.EnvironmentMovesTouchOnlyTheirPorts : Prop :=
  (∀ (s : State) (p : Packet),
    makeMove (.offer p) s =
      match s.nl with
      | none => .next { s with nl := some p, out := [] }
      | some _ => .fault .dutyBroken) ∧
  (∀ (s : State) (x : RxItem),
    makeMove (.present x) s =
      match s.rx with
      | none => .next { s with rx := some x, out := [] }
      | some _ => .fault .dutyBroken) ∧
  (∀ (s : State) (m : Move) (rest : List Move), s.agenda = m :: rest →
    step s = makeMove m { s with agenda := rest })

/-- 70 R240, R241: reset, in any state, gives every piece of state its reset value, keeps the port items,
and emits `GRANT(4)`. -/
def Obligations.ResetRestoresEverythingButThePorts : Prop :=
  ∀ (s : State) (rest : List Move), s.agenda = .rst :: rest →
    step s = .next
      { ctl := .wait, ae := 0, nfts := 0, fe := 0, noNak := true,
        arrived := ⟨false, false, false, false⟩, inBuf := [], outBuf := [],
        rtx := Quad.fill { armed := false, tag := 0, count := 0, pending := false },
        ackt := { armed := false, count := 0, pending := false },
        anom := false, fcause := 0, nl := s.nl, rx := s.rx, out := [.grant 4],
        sel := s.sel, agenda := rest, turn := s.turn, timeouts := s.timeouts }

/-- 10 R40: the reset values, the derived ones included, whatever timeouts the block is built with; and
the machine's own reset state has the default timeouts (00 R8). -/
def Obligations.ResetValues : Prop :=
  (∀ c : Timeouts, let s := State.resetWith c
    s.ctl = .wait ∧ s.ae = 0 ∧ s.nfts = 0 ∧ s.fe = 0 ∧ s.tf = 4 ∧ s.noNak = true ∧
    (∀ e : Slot, s.arrived.get e = false ∧ s.inBuf.read e = none ∧ s.outBuf.read e = none ∧
      s.rtx.get e = { armed := false, tag := 0, count := 0, pending := false }) ∧
    s.ackt = { armed := false, count := 0, pending := false } ∧
    s.credit = 4 ∧ s.anom = false ∧ s.fcause = 0 ∧ s.statusO = 0x00081800#32 ∧ s.timeouts = c) ∧
  State.reset = State.resetWith Config.timeouts ∧
  State.reset.timeouts.rtx = 300 ∧ State.reset.timeouts.ack = 150

/-- 10 R35: every field of the status word stands in its bits. -/
def Obligations.StatusWordLayout : Prop :=
  ∀ s : State, let w := s.statusO
    w.extractLsb' 0 3 = s.ae ∧ w.extractLsb' 3 3 = s.nfts ∧ w.extractLsb' 6 3 = s.fe ∧
    w.extractLsb' 9 3 = s.tf ∧ w.getLsbD 12 = s.noNak ∧
    (∀ e : Slot, w.getLsbD (13 + e.val) = s.arrived.get e) ∧
    (w.extractLsb' 17 3).toNat = s.credit ∧ w.getLsbD 20 = s.ackt.armed ∧
    w.getLsbD 21 = s.ackt.pending ∧
    (∀ e : Slot, w.getLsbD (22 + e.val) = (s.rtx.get e).armed) ∧
    (∀ e : Slot, w.getLsbD (26 + e.val) = (s.rtx.get e).pending) ∧
    w.getLsbD 30 = s.anom ∧ w.getLsbD 31 = decide (s.ctl = .faulted)

/-- The model's `withFetchWord` (log 12): from every state, the next step runs exactly the instruction
the word decodes to, and goes through. -/
def Obligations.FetchWordRunsNext : Prop :=
  ∀ (s : State) (ev : BitVec 8), ∃ u t,
    step (s.withFetchWord 8 ev.toNat) = exec (decode ev) u ∧ exec (decode ev) u = .next t

/-! ### The timer manager -/

/-- 41 R121, R122, R124: arming writes the whole entry, restarting a live one of the same number and
withdrawing its expiry; over a live entry of another number it raises SLOT_REUSE and changes nothing
else. -/
def Obligations.ArmRetransmitOrSlotReuse : Prop :=
  ∀ (q : Seq) (s : State),
    let e := s.rtx.get (slot q)
    armRetransmit q s =
      if (e.armed = true ∨ e.pending = true) ∧ e.tag ≠ q then
        .ended { s with ctl := .faulted, fcause := 1 }
      else
        .running { s with
          rtx := s.rtx.set (slot q)
            { armed := true, tag := q, count := s.timeouts.rtx, pending := false } }

/-- 41 R126: cancelling idles the entry of the number's slot if it carries that number, and otherwise
changes nothing. -/
def Obligations.CancelRetransmitIsKeyedByNumber : Prop :=
  ∀ (q : Seq) (s : State),
    let e := s.rtx.get (slot q)
    (e.tag = q → cancelRetransmit q s = { s with
      rtx := s.rtx.set (slot q) { armed := false, tag := q, count := 0, pending := false } }) ∧
    (e.tag ≠ q → cancelRetransmit q s = s)

/-- 41 R128, R130, R131, R132: the remaining operations each change their timer only. -/
def Obligations.TimerOperations : Prop :=
  ∀ (s : State) (e : Slot),
    consumeTimeout e s = { s with rtx := s.rtx.set e { s.rtx.get e with pending := false } } ∧
    armAckDelay s =
      { s with ackt := { armed := true, count := s.timeouts.ack, pending := false } } ∧
    cancelAckDelay s = { s with ackt := { armed := false, count := 0, pending := false } } ∧
    consumeAckTimeout s = { s with ackt := { s.ackt with pending := false } }

/-- 41 R127, R133: one tick on every timer at once, every running count in the range of its `TIMER_W`-bit
counter; nothing else changes but the output list, which is empty. -/
def Obligations.TickCountsEveryTimerDown : Prop :=
  ∀ s : State, ∃ t, makeMove .tick s = .next t ∧
    (∀ e : Slot, let x := s.rtx.get e
      (x.armed = false → t.rtx.get e = x) ∧
      (x.armed = true → 1 ≤ x.count → x.count < 2 ^ timerWidth s.timeouts →
        t.rtx.get e =
          if x.count - 1 = 0 then { armed := false, tag := x.tag, count := 0, pending := true }
          else { x with count := x.count - 1 })) ∧
    (s.ackt.armed = false → t.ackt = s.ackt) ∧
    (s.ackt.armed = true → 1 ≤ s.ackt.count → s.ackt.count < 2 ^ timerWidth s.timeouts →
      t.ackt =
        if s.ackt.count - 1 = 0 then { armed := false, count := 0, pending := true }
        else { s.ackt with count := s.ackt.count - 1 }) ∧
    t = { s with rtx := t.rtx, ackt := t.ackt, out := [] }

/-- 41 R123: an armed retransmit timer with `c` units left still runs after fewer ticks, expires on the
`c`-th, keeps its tag, and stays pending. -/
def Obligations.RetransmitTimerExpiresOnTime : Prop :=
  ∀ (s : State) (e : Slot) (n : Nat), (s.rtx.get e).armed = true → (s.rtx.get e).pending = false →
    1 ≤ (s.rtx.get e).count → (s.rtx.get e).count < 2 ^ timerWidth s.timeouts →
    let x := (s.ticks n).rtx.get e
    x.tag = (s.rtx.get e).tag ∧
    if n < (s.rtx.get e).count then
      x.armed = true ∧ x.pending = false ∧ x.count = (s.rtx.get e).count - n
    else x.armed = false ∧ x.pending = true

/-- 41 R133: the same of the acknowledgement timer. -/
def Obligations.AckTimerExpiresOnTime : Prop :=
  ∀ (s : State) (n : Nat), s.ackt.armed = true → s.ackt.pending = false →
    1 ≤ s.ackt.count → s.ackt.count < 2 ^ timerWidth s.timeouts →
    if n < s.ackt.count then
      (s.ticks n).ackt.armed = true ∧ (s.ticks n).ackt.pending = false ∧
        (s.ticks n).ackt.count = s.ackt.count - n
    else (s.ticks n).ackt.armed = false ∧ (s.ticks n).ackt.pending = true

/-- 70 R253(a): the frame an NLR step sent, if nothing but ticks happens, becomes due for
retransmission on exactly the `T_RTX`-th tick, whatever `T_RTX` is: not before, and from then on. -/
def Obligations.UnacknowledgedFrameIsDueAfterTimeout : Prop :=
  ∀ (s t : State) (n : Nat), exec .nlr s = .next t → t.ctl = .wait →
    (eligible (.retransmit (slot s.nfts)) (t.ticks n) = true ↔ s.timeouts.rtx ≤ n) ∧
    ((t.ticks n).rtx.get (slot s.nfts)).tag = s.nfts

/-! ### The frame assembler -/

/-- 42 R150 to R158: everything `send_frame` does: the frame, `NO_NAK`, the timers, and for DATA the two
faults, with what was done before each standing. -/
def Obligations.SendFrameEffects : Prop :=
  (∀ (nr : Seq) (s : State), sendFrame .ack nr s = .running { s with
    out := s.out ++ [.tx (Frame.toWord ⟨.ack, nr, dec s.fe, ⟨0⟩, false⟩)]
    ackt := { armed := false, count := 0, pending := false } }) ∧
  (∀ (nr : Seq) (s : State), sendFrame .nak nr s = .running { s with
    noNak := false
    out := s.out ++ [.tx (Frame.toWord ⟨.nak, nr, dec s.fe, ⟨0⟩, false⟩)]
    ackt := { armed := false, count := 0, pending := false } }) ∧
  (∀ (nr : Seq) (s : State), s.outBuf.read (slot nr) = none →
    sendFrame .data nr s = .ended { s with ctl := .faulted, fcause := 2 }) ∧
  (∀ (nr : Seq) (s : State) (p : Packet), s.outBuf.read (slot nr) = some p →
    sendFrame .data nr s =
      let sent := s.out ++ [.tx (Frame.toWord ⟨.data, nr, dec s.fe, p, true⟩)]
      if (s.rtx.get (slot nr)).live = true ∧ (s.rtx.get (slot nr)).tag ≠ nr then
        .ended { s with out := sent, ctl := .faulted, fcause := 1 }
      else
        .running { s with
          out := sent
          rtx := s.rtx.set (slot nr)
            { armed := true, tag := nr, count := s.timeouts.rtx, pending := false }
          ackt := { armed := false, count := 0, pending := false } })

/-! ### The events: what each leaves, everything else unchanged -/

/-- 43 R172: NETWORK_LAYER_READY has the words `0bxxxxx000`; it is eligible while a packet is offered and
there is credit; it buffers the packet, sends it, arms its timer, and uses one unit of credit. The
premise that the slot's timer carries no other number follows from the invariant, so that SLOT_REUSE is
not raised there. -/
def Obligations.NlrSendsTheOfferedPacket : Prop :=
  (∀ ev : BitVec 8, decode ev = .nlr ↔ ev &&& 0x07#8 = 0x00#8) ∧
  (∀ (s : State) (p : Packet), s.ctl = .wait → s.nl = some p → 0 < s.credit →
    arbitrate .upper s = some (0x00#8, s.sel) ∧
    (EngineInv s →
      (s.rtx.get (slot s.nfts)).live = true → (s.rtx.get (slot s.nfts)).tag = s.nfts) ∧
    (((s.rtx.get (slot s.nfts)).live = true → (s.rtx.get (slot s.nfts)).tag = s.nfts) →
      ∃ t, exec .nlr s = .next t ∧ t.credit + 1 = s.credit ∧
        t = { s with
          nl := none
          outBuf := s.outBuf.write (slot s.nfts) p
          rtx := s.rtx.set (slot s.nfts)
            { armed := true, tag := s.nfts, count := s.timeouts.rtx, pending := false }
          ackt := { armed := false, count := 0, pending := false }
          nfts := inc s.nfts
          out := [.takeNl, .tx (Frame.toWord ⟨.data, s.nfts, dec s.fe, p, true⟩)] }))

/-- 41 R124, 60 R224: over a live timer of another number NLR raises SLOT_REUSE; the packet is already
buffered and sent, `NFTS` and the timers are not touched. -/
def Obligations.NlrSlotReuseFault : Prop :=
  ∀ (s : State) (p : Packet), s.ctl = .wait → s.nl = some p → s.nout < Config.nrBufs →
    (s.rtx.get (slot s.nfts)).live = true → (s.rtx.get (slot s.nfts)).tag ≠ s.nfts →
    exec .nlr s = .next { s with
      nl := none
      outBuf := s.outBuf.write (slot s.nfts) p
      out := [.takeNl, .tx (Frame.toWord ⟨.data, s.nfts, dec s.fe, p, true⟩)]
      ctl := .faulted
      fcause := 1 }

/-- 43 R174 to R177, R182, R183: FRAME_ARRIVAL of a DATA frame, whole: its words `0bxxx00001`, its
eligibility, its effect. With `nak` for "a NAK is sent",
`buf` and `arr` for the buffer and the bitmap after acceptance, and `n` for the length of the run of
arrived slots at `FE`, the step sends the NAK or arms the timer, delivers those `n` packets in order, and
then processes the acknowledgement. -/
def Obligations.DataFrameIsAcceptedAndDrained : Prop :=
  (∀ ev : BitVec 8, decode ev = .faData ↔ ev &&& 0x1F#8 = 0x01#8) ∧
  (∀ (s : State) (f : FrameWord), s.ctl = .wait → s.rx = some (.frame f) → f.kind = .data →
    arbitrate .receive s = some (0x01#8, s.sel)) ∧
  ∀ (s : State) (f : FrameWord), s.ctl = .wait → s.rx = some (.frame f) → f.kind = .data →
    (∀ e : Slot, s.arrived.get e = true → (s.inBuf.read e).isSome = true) →
    ∀ (nak : Bool) (buf : Memory) (arr : Quad Bool) (n : Nat),
    (nak = true ↔ f.seq ≠ s.fe ∧ s.noNak = true) →
    ((Accepted f s ∧ buf = s.inBuf.write (slot f.seq) f.payload ∧
        arr = s.arrived.set (slot f.seq) true ∧ n = runLength 4 arr s.fe) ∨
      (¬ Accepted f s ∧ buf = s.inBuf ∧ arr = s.arrived ∧ n = 0)) →
    ∃ t, exec .faData s = .next t ∧
      AckEffect f.ack
        { s with
          rx := none
          noNak := if 0 < n then true else if nak then false else s.noNak
          arrived := clearRun n arr s.fe
          inBuf := buf
          fe := s.fe + BitVec.ofNat 3 n
          ackt := if n = 0 ∧ nak = true then { armed := false, count := 0, pending := false }
            else { armed := true, count := s.timeouts.ack, pending := false }
          out := [.takeRx]
            ++ (if nak then [.tx (Frame.toWord ⟨.nak, 0, dec s.fe, ⟨0⟩, false⟩)] else [])
            ++ deliveries n buf s.fe }
        t

/-- 43 R176, 70 R245(b): a DATA frame outside the window, or of a slot already arrived, is discarded: no
delivery, `FE`, `ARRIVED` and `IN_BUF` unchanged; and the step goes through. -/
def Obligations.UnacceptedDataFrameIsDiscarded : Prop :=
  ∀ (s : State) (f : FrameWord), s.ctl = .wait → s.rx = some (.frame f) → f.kind = .data →
    ¬ Accepted f s →
    ∃ t, exec .faData s = .next t ∧ t.fe = s.fe ∧ t.arrived = s.arrived ∧ t.inBuf = s.inBuf ∧
      t.ctl = .wait ∧ ∀ p, Output.deliver p ∉ t.out

/-- 60 R225, R224: when the drain loop, after delivering an in-order frame, meets an arrived slot that
holds no value, it raises UNWRITTEN_SLOT there; the delivery stands, the slot stays marked, and no
acknowledgement is processed. -/
def Obligations.DrainOfUnwrittenSlotFaults : Prop :=
  ∀ (s : State) (f : FrameWord), s.ctl = .wait → s.rx = some (.frame f) → f.kind = .data →
    f.seq = s.fe → s.arrived.get (slot s.fe) = false →
    s.arrived.get (slot (inc s.fe)) = true → s.inBuf.read (slot (inc s.fe)) = none →
    exec .faData s = .next { s with
      rx := none
      noNak := true
      arrived := (s.arrived.set (slot s.fe) true).set (slot s.fe) false
      inBuf := s.inBuf.write (slot s.fe) f.payload
      fe := inc s.fe
      ackt := { armed := true, count := s.timeouts.ack, pending := false }
      out := [.takeRx, .deliver f.payload]
      ctl := .faulted
      fcause := 2 }

/-- 43 R178, R183: FRAME_ARRIVAL of an ACK frame has the words `0bxxx01001`; it is acknowledgement
processing of the frame's `ack`, and nothing else. -/
def Obligations.AckFrameAcknowledges : Prop :=
  (∀ ev : BitVec 8, decode ev = .faAck ↔ ev &&& 0x1F#8 = 0x09#8) ∧
  (∀ (s : State) (f : FrameWord), s.ctl = .wait → s.rx = some (.frame f) → f.kind = .ack →
    arbitrate .receive s = some (0x09#8, s.sel) ∧
    ∃ t, exec .faAck s = .next t ∧
      AckEffect f.ack { s with rx := none, out := [.takeRx] } t)

/-- 43 R179, R180, R183: FRAME_ARRIVAL of a NAK frame has the words `0bxxx10001`; it resends the one frame
it requests, if that is outstanding, and then processes the acknowledgement. That the slot holds a packet
and its timer no other number follows from the invariant. -/
def Obligations.NakFrameResendsTheRequestedFrame : Prop :=
  (∀ ev : BitVec 8, decode ev = .faNak ↔ ev &&& 0x1F#8 = 0x11#8) ∧
  ∀ (s : State) (f : FrameWord), s.ctl = .wait → s.rx = some (.frame f) → f.kind = .nak →
    arbitrate .receive s = some (0x11#8, s.sel) ∧
    let q := inc f.ack
    (EngineInv s → between s.ae q s.nfts = true → (s.outBuf.read (slot q)).isSome = true ∧
      ((s.rtx.get (slot q)).live = true → (s.rtx.get (slot q)).tag = q)) ∧
    (between s.ae q s.nfts = false →
      ∃ t, exec .faNak s = .next t ∧
        AckEffect f.ack { s with rx := none, out := [.takeRx] } t) ∧
    (between s.ae q s.nfts = true → ∀ p, s.outBuf.read (slot q) = some p →
      ((s.rtx.get (slot q)).live = true → (s.rtx.get (slot q)).tag = q) →
      ∃ t, exec .faNak s = .next t ∧
        AckEffect f.ack
          { s with
            rx := none
            rtx := s.rtx.set (slot q)
              { armed := true, tag := q, count := s.timeouts.rtx, pending := false }
            ackt := { armed := false, count := 0, pending := false }
            out := [.takeRx, .tx (Frame.toWord ⟨.data, q, dec s.fe, p, true⟩)] }
          t)

/-- 43 R181, 60 R223: FRAME_ARRIVAL of a frame of the reserved kind has the words `0bxxx11001`; the frame
is consumed and reported, and nothing else changes. -/
def Obligations.ReservedKindIsOnlyReported : Prop :=
  (∀ ev : BitVec 8, decode ev = .faRsvd ↔ ev &&& 0x1F#8 = 0x19#8) ∧
  (∀ (s : State) (f : FrameWord), s.ctl = .wait → s.rx = some (.frame f) → f.kind = .rsvd →
    arbitrate .receive s = some (0x19#8, s.sel) ∧
    exec .faRsvd s = .next { s with rx := none, anom := true, out := [.takeRx, .anomaly 0b10] })

/-- 43 R185: CKSUM_ERR has the words `0bxxxxx010`; it consumes the indication and sends a NAK only if none
is outstanding. -/
def Obligations.ChecksumErrorSendsAtMostOneNak : Prop :=
  (∀ ev : BitVec 8, decode ev = .cksum ↔ ev &&& 0x07#8 = 0x02#8) ∧
  ∀ s : State, s.ctl = .wait → s.rx = some .err →
    arbitrate .receive s = some (0x02#8, s.sel) ∧
    (s.noNak = true → exec .cksum s = .next { s with
      rx := none
      noNak := false
      ackt := { armed := false, count := 0, pending := false }
      out := [.takeRx, .tx (Frame.toWord ⟨.nak, 0, dec s.fe, ⟨0⟩, false⟩)] }) ∧
    (s.noNak = false → exec .cksum s = .next { s with rx := none, out := [.takeRx] })

/-- 43 R187: TIMEOUT has the words `{q, xx, 011}`, `q` the tag of the timer entry the arbiter selected; it
consumes the expiry and resends the frame the timer carries, outstanding or not, restarting its timer.
That the tag belongs to the entry's slot is the timer invariant 70 R246(c). -/
def Obligations.TimeoutResendsTheTimersFrame : Prop :=
  (∀ (ev : BitVec 8) (q : Seq), decode ev = .timeout q ↔ ev &&& 0x07#8 = 0x03#8 ∧ arg ev = q) ∧
  (∀ (s : State) (e : Slot), s.ctl = .wait → (s.rtx.get e).pending = true →
    arbitrate (.retransmit e) s = some ((s.rtx.get e).tag ++ 0b00#2 ++ 0b011#3, e)) ∧
  ∀ (s : State) (q : Seq) (p : Packet), s.ctl = .wait → (s.rtx.get s.sel).pending = true →
    (s.rtx.get s.sel).tag = q → slot q = s.sel → s.outBuf.read (slot q) = some p →
    exec (.timeout q) s = .next { s with
      rtx := s.rtx.set s.sel
        { armed := true, tag := q, count := s.timeouts.rtx, pending := false }
      ackt := { armed := false, count := 0, pending := false }
      out := [.tx (Frame.toWord ⟨.data, q, dec s.fe, p, true⟩)] }

/-- 60 R225: a TIMEOUT whose slot holds no packet raises UNWRITTEN_SLOT; the expiry is consumed, nothing
is sent. -/
def Obligations.TimeoutOfUnwrittenSlotFaults : Prop :=
  ∀ (s : State) (q : Seq), s.ctl = .wait → (s.rtx.get s.sel).pending = true →
    (s.rtx.get s.sel).tag = q → s.outBuf.read (slot q) = none →
    exec (.timeout q) s = .next { s with
      rtx := s.rtx.set s.sel { s.rtx.get s.sel with pending := false }
      out := []
      ctl := .faulted
      fcause := 2 }

/-- 43 R188: ACK_TIMEOUT has the words `0bxxxxx100`; it sends a bare ACK carrying `dec(FE)`, and the timer
ends idle. -/
def Obligations.AckTimeoutSendsABareAck : Prop :=
  (∀ ev : BitVec 8, decode ev = .ackto ↔ ev &&& 0x07#8 = 0x04#8) ∧
  (∀ s : State, s.ctl = .wait → s.ackt.pending = true →
    arbitrate .ackDelay s = some (0x04#8, s.sel) ∧
    exec .ackto s = .next { s with
      ackt := { armed := false, count := 0, pending := false }
      out := [.tx (Frame.toWord ⟨.ack, 0, dec s.fe, ⟨0⟩, false⟩)] })

/-- 43 R189: the three unrecognized events have the words with `ETYPE` 5, 6 and 7; the arbiter never forms
one; each reports an anomaly, and nothing else changes. -/
def Obligations.UnrecognizedEventsAreOnlyReported : Prop :=
  (∀ ev : BitVec 8, (decode ev = .rsvd5 ↔ ev &&& 0x07#8 = 0x05#8) ∧
    (decode ev = .rsvd6 ↔ ev &&& 0x07#8 = 0x06#8) ∧ (decode ev = .rsvd7 ↔ ev &&& 0x07#8 = 0x07#8)) ∧
  (∀ (src : Source) (s : State) (ev : BitVec 8) (e : Slot), arbitrate src s = some (ev, e) →
    decode ev ≠ .rsvd5 ∧ decode ev ≠ .rsvd6 ∧ decode ev ≠ .rsvd7) ∧
  (∀ s : State, s.ctl = .wait →
    exec .rsvd5 s = .next { s with anom := true, out := [.anomaly 0b01] } ∧
    exec .rsvd6 s = .next { s with anom := true, out := [.anomaly 0b01] } ∧
    exec .rsvd7 s = .next { s with anom := true, out := [.anomaly 0b01] })

/-! ### Rules over all events -/

/-- 43 R191: each register, flag, timer and port changes only in the events that write it. -/
def Obligations.EventsWriteOnlyTheirState : Prop :=
  ∀ (i : Instr) (s t : State), exec i s = .next t →
    (i ≠ .faData → i ≠ .faAck → i ≠ .faNak → t.ae = s.ae) ∧
    (i ≠ .nlr → t.nfts = s.nfts) ∧
    (i ≠ .faData → t.fe = s.fe ∧ t.arrived = s.arrived) ∧
    (i ≠ .faData → i ≠ .cksum → t.noNak = s.noNak) ∧
    (i ≠ .faRsvd → i ≠ .rsvd5 → i ≠ .rsvd6 → i ≠ .rsvd7 → t.anom = s.anom) ∧
    (i = .faAck ∨ i = .faRsvd ∨ i = .rsvd5 ∨ i = .rsvd6 ∨ i = .rsvd7 → t.ackt = s.ackt) ∧
    (i = .faRsvd ∨ i = .cksum ∨ i = .ackto ∨ i = .rsvd5 ∨ i = .rsvd6 ∨ i = .rsvd7 →
      t.rtx = s.rtx) ∧
    (i ≠ .nlr → t.nl = s.nl) ∧ (i = .nlr → t.nl = none) ∧
    (t.rx = s.rx ∨ t.rx = none) ∧
    (i = .nlr ∨ (∃ q, i = .timeout q) ∨ i = .ackto ∨ i = .rsvd5 ∨ i = .rsvd6 ∨ i = .rsvd7 →
      t.rx = s.rx) ∧
    ((t.ctl = .wait ∧ t.fcause = s.fcause) ∨
      (t.ctl = .faulted ∧ (t.fcause = 1 ∨ t.fcause = 2))) ∧
    t.sel = s.sel ∧ t.agenda = s.agenda ∧ t.turn = s.turn ∧ t.timeouts = s.timeouts

/-- 20 R56, R58, R55: every slot of both buffers reads as before, except `slot(NFTS)` of `OUT_BUF` in NLR
and the arriving frame's slot of `IN_BUF` in FA.DATA. -/
def Obligations.BufferFrames : Prop :=
  ∀ (i : Instr) (s t : State), exec i s = .next t →
    (∀ e : Slot, ¬ (i = .nlr ∧ e = slot s.nfts) → t.outBuf.read e = s.outBuf.read e) ∧
    (i = .nlr → t.outBuf.read (slot s.nfts) = s.nl) ∧
    (∀ e : Slot, (∀ f, i = .faData → s.rx = some (.frame f) → e ≠ slot f.seq) →
      t.inBuf.read e = s.inBuf.read e) ∧
    (∀ f, i = .faData → s.rx = some (.frame f) →
      t.inBuf.read (slot f.seq) = some f.payload ∨
      t.inBuf.read (slot f.seq) = s.inBuf.read (slot f.seq))

/-- 20 R57, R58: the packet of an outstanding number stays in `OUT_BUF`, and an undelivered packet in
`IN_BUF`, whatever event is handled. -/
def Obligations.HeldPacketsAreNotOverwritten : Prop :=
  ∀ (i : Instr) (s t : State), exec i s = .next t →
    (WindowOk s → ∀ q : Seq, s.outstanding q = true →
      t.outBuf.read (slot q) = s.outBuf.read (slot q)) ∧
    (∀ e : Slot, s.arrived.get e = true → t.inBuf.read e = s.inBuf.read e)

/-- 42 R151, R153; 30 R77, R79: every frame any event transmits is well formed and carries
`ack = dec(FE)`, with `FE` as the event found it. -/
def Obligations.TransmittedFramesConform : Prop :=
  ∀ (i : Instr) (s t : State) (f : FrameWord), exec i s = .next t → Output.tx f ∈ t.out →
    f.toFrame.wellFormed = true ∧ f.ack = dec s.fe

/-- 43 R190: the outputs of one step, in number and in order: consumption, at most one transmission (of the
kind that belongs to the event), at most four deliveries (FA.DATA only), at most one grant (FRAME_ARRIVAL
only), at most one anomaly; and in a window state a grant of 1 to 4 units. -/
def Obligations.OutputBoundsAndOrder : Prop :=
  ∀ (i : Instr) (s t : State), exec i s = .next t →
    (∃ taken tx dl gr an, t.out = taken ++ tx ++ dl ++ gr ++ an ∧
      (taken = [] ∨ taken = [.takeNl] ∨ taken = [.takeRx]) ∧
      tx.length ≤ 1 ∧ (∀ o ∈ tx, o.isTx = true) ∧
      (∀ f, Output.tx f ∈ tx →
        (f.kind = .data ∧ (i = .nlr ∨ i = .faNak ∨ ∃ q, i = .timeout q)) ∨
        (f.kind = .nak ∧ (i = .cksum ∨
          i = .faData ∧ ∃ g, s.rx = some (.frame g) ∧ g.seq ≠ s.fe)) ∨
        (f.kind = .ack ∧ i = .ackto)) ∧
      dl.length ≤ Config.nrBufs ∧ (∀ o ∈ dl, o.isDeliver = true) ∧ (dl ≠ [] → i = .faData) ∧
      gr.length ≤ 1 ∧ (∀ o ∈ gr, o.isGrant = true) ∧
      (gr ≠ [] → i = .faData ∨ i = .faAck ∨ i = .faNak) ∧
      an.length ≤ 1 ∧ (∀ o ∈ an, o.isAnomaly = true) ∧
      (an ≠ [] → tx = [] ∧ dl = [] ∧ gr = [])) ∧
    (WindowOk s → ∀ n, Output.grant n ∈ t.out → 1 ≤ n.toNat ∧ n.toNat ≤ Config.nrBufs)

/-- 70 R248: a NAK is sent only when none is outstanding; sending one, with no delivery in the step,
leaves one outstanding; and only a delivery allows the next. -/
def Obligations.NakSuppression : Prop :=
  ∀ (i : Instr) (s t : State), exec i s = .next t →
    ((∃ o ∈ t.out, o.isNak = true) → s.noNak = true) ∧
    ((∃ o ∈ t.out, o.isNak = true) → (∀ o ∈ t.out, o.isDeliver = false) → t.noNak = false) ∧
    ((∀ o ∈ t.out, o.isDeliver = false) → (∀ o ∈ t.out, o.isNak = false) → t.noNak = s.noNak) ∧
    ((∃ o ∈ t.out, o.isDeliver = true) → t.noNak = true)

/-- 42 R157: after any transmission with no delivery after it the acknowledgement timer is idle. -/
def Obligations.TransmissionCancelsTheAckTimer : Prop :=
  ∀ (i : Instr) (s t : State), exec i s = .next t → t.ctl = .wait →
    (∃ o ∈ t.out, o.isTx = true) → (∀ o ∈ t.out, o.isDeliver = false) →
    t.ackt = { armed := false, count := 0, pending := false }

/-- 10 R31: credit is conserved: a unit is used by each NLR and returned by each unit granted. -/
def Obligations.CreditIsConserved : Prop :=
  ∀ (i : Instr) (s t : State), WindowOk s → exec i s = .next t → t.ctl = .wait →
    t.credit + (if i = .nlr then 1 else 0) = s.credit + (t.out.map Output.units).sum

/-- 70 R245(a): a step delivers exactly as many packets as `FE` advances. -/
def Obligations.DeliveriesAdvanceTheReceiver : Prop :=
  ∀ (i : Instr) (s t : State), exec i s = .next t →
    (t.out.filter Output.isDeliver).length = seqDiff t.fe s.fe

/-- 41 R135: once a frame is acknowledged no expiry of it is left, in any slot that its number uses. -/
def Obligations.AcknowledgedFrameHasNoExpiry : Prop :=
  ∀ (s t : State) (f : FrameWord) (q : Seq), s.rx = some (.frame f) → exec .faAck s = .next t →
    between s.ae f.ack s.nfts = true → between s.ae q (inc f.ack) = true →
    ¬ ((t.rtx.get (slot q)).live = true ∧ (t.rtx.get (slot q)).tag = q)

/-! ### Invariants -/

/-- The reset state meets the invariant, whatever timeouts the block is built with. -/
def Obligations.ResetMeetsTheInvariant : Prop :=
  EngineInv State.reset ∧ ∀ c : Timeouts, EngineInv (State.resetWith c)

/-- 70 R243, R244, R246, R247: every step of every agent, from every state that meets the invariant,
gives a state that meets it. In particular neither SLOT_REUSE nor UNWRITTEN_SLOT is ever raised. -/
def Obligations.StepKeepsTheInvariant : Prop :=
  ∀ s t : State, EngineInv s → step s = .next t → EngineInv t

/-- From every state, reachable or not, every step keeps the buffers' canonical form. -/
def Obligations.StepKeepsBuffersCanonical : Prop :=
  ∀ s t : State, BuffersOk s → step s = .next t → BuffersOk t

/-- 70 R246(a), (b), at every choice of timeouts: from every state, reachable or not, every step keeps the
timers sound, each count within `TIMER_W` bits included; and no step changes the timeouts. The width is
the least that holds both timeouts, 9 at the defaults (00 R8, R10). That the timeouts stand in State is
the model's choice (log 2). -/
def Obligations.StepKeepsTimersSound : Prop :=
  (∀ s t : State, step s = .next t → t.timeouts = s.timeouts) ∧
  (∀ s t : State, TimersOk s → step s = .next t → TimersOk t) ∧
  (∀ c : Timeouts, 1 ≤ c.rtx ∧ 1 ≤ c.ack ∧ max c.rtx c.ack < 2 ^ timerWidth c ∧
    ∀ w : Nat, max c.rtx c.ack < 2 ^ w → timerWidth c ≤ w) ∧
  Config.timeouts.rtx = 300 ∧ Config.timeouts.ack = 150 ∧ timerWidth Config.timeouts = 9

/-- 70 R243: at most `NR_BUFS` frames are outstanding after reset, and every step keeps that; the receiver
window always has `NR_BUFS` numbers; and the credit is what the outstanding frames leave of `NR_BUFS`. -/
def Obligations.StepKeepsTheWindow : Prop :=
  WindowOk State.reset ∧
  (∀ s t : State, WindowOk s → step s = .next t → WindowOk t) ∧
  (∀ s : State, s.nout = (s.nfts.toNat + 8 - s.ae.toNat) % 8 ∧
    (s.tf.toNat + 8 - s.fe.toNat) % 8 = Config.nrBufs ∧
    (WindowOk s → s.credit + s.nout = Config.nrBufs))

/-- 00 R9, 20 R53: for every width, if the packets the block holds and the environment brings fit it, so
do those it holds and emits after the move: the model runs at every `PAYLOAD_W` (log 1). -/
def Obligations.MovesKeepPacketsInWidth : Prop :=
  ∀ (w : Nat) (m : Move) (s t : State), PacketsFit w s → m.fits w → makeMove m s = .next t →
    PacketsFit w t

/-! ### Two engines -/

/-- 70 R245(d), 60 R234: two engines joined by a link that may lose, corrupt, reorder and repeat frames
each keep their invariant at every step of the pair. -/
def Obligations.LinkedEnginesKeepTheirInvariants : Prop :=
  (∀ ca cb : Timeouts, EngineInv (Pair.resetWith ca cb).a ∧ EngineInv (Pair.resetWith ca cb).b) ∧
  ∀ (m : LinkMove) (p p' : Pair), EngineInv p.a → EngineInv p.b → pairStep m p = .next p' →
    EngineInv p'.a ∧ EngineInv p'.b

/-- 43 R181, R189: two conforming engines never see a frame of the reserved kind and never report an
anomaly, whatever the link does. -/
def Obligations.LinkedEnginesReportNoAnomaly : Prop :=
  (∀ ca cb : Timeouts, CleanPair (Pair.resetWith ca cb)) ∧
  ∀ (m : LinkMove) (p p' : Pair), CleanPair p → pairStep m p = .next p' → CleanPair p'

/-- 60 R234: the engines share nothing: a move of one leaves the other, and the frames on their way to
the one that moves, as they are, and adds to the other direction exactly what the step transmitted. -/
def Obligations.EnginesShareNothing : Prop :=
  ∀ (side : Side) (m : Move) (p p' : Pair), pairStep (.engine side m) p = .next p' →
    makeMove m (p.engine side) = .next (p'.engine side) ∧
    p'.engine side.peer = p.engine side.peer ∧ p'.queue side = p.queue side ∧
    p'.queue side.peer = p.queue side.peer ++ (p'.engine side).transmitted
end

