-- ==== Sys2Proof/Laws/State.lean ====
section
/-! SUPPORT. One lemma per field per update of `State`, so that no proof unfolds a record update. -/

namespace Sys2Proof.Machine

@[simp] theorem State.emit_ctl (o : Output) (s : State) : (State.emit o s).ctl = s.ctl := rfl
@[simp] theorem State.emit_ae (o : Output) (s : State) : (State.emit o s).ae = s.ae := rfl
@[simp] theorem State.emit_nfts (o : Output) (s : State) : (State.emit o s).nfts = s.nfts := rfl
@[simp] theorem State.emit_fe (o : Output) (s : State) : (State.emit o s).fe = s.fe := rfl
@[simp] theorem State.emit_noNak (o : Output) (s : State) : (State.emit o s).noNak = s.noNak := rfl
@[simp] theorem State.emit_arrived (o : Output) (s : State) :
    (State.emit o s).arrived = s.arrived := rfl
@[simp] theorem State.emit_inBuf (o : Output) (s : State) : (State.emit o s).inBuf = s.inBuf := rfl
@[simp] theorem State.emit_outBuf (o : Output) (s : State) :
    (State.emit o s).outBuf = s.outBuf := rfl
@[simp] theorem State.emit_rtx (o : Output) (s : State) : (State.emit o s).rtx = s.rtx := rfl
@[simp] theorem State.emit_ackt (o : Output) (s : State) : (State.emit o s).ackt = s.ackt := rfl
@[simp] theorem State.emit_anom (o : Output) (s : State) : (State.emit o s).anom = s.anom := rfl
@[simp] theorem State.emit_fcause (o : Output) (s : State) :
    (State.emit o s).fcause = s.fcause := rfl
@[simp] theorem State.emit_nl (o : Output) (s : State) : (State.emit o s).nl = s.nl := rfl
@[simp] theorem State.emit_rx (o : Output) (s : State) : (State.emit o s).rx = s.rx := rfl
@[simp] theorem State.emit_out (o : Output) (s : State) : (State.emit o s).out = s.out ++ [o] := rfl
@[simp] theorem State.emit_sel (o : Output) (s : State) : (State.emit o s).sel = s.sel := rfl
@[simp] theorem State.emit_agenda (o : Output) (s : State) :
    (State.emit o s).agenda = s.agenda := rfl
@[simp] theorem State.emit_turn (o : Output) (s : State) : (State.emit o s).turn = s.turn := rfl
@[simp] theorem State.emit_timeouts (o : Output) (s : State) :
    (State.emit o s).timeouts = s.timeouts := rfl

@[simp] theorem State.begin_ctl (s : State) : (State.begin s).ctl = s.ctl := rfl
@[simp] theorem State.begin_ae (s : State) : (State.begin s).ae = s.ae := rfl
@[simp] theorem State.begin_nfts (s : State) : (State.begin s).nfts = s.nfts := rfl
@[simp] theorem State.begin_fe (s : State) : (State.begin s).fe = s.fe := rfl
@[simp] theorem State.begin_noNak (s : State) : (State.begin s).noNak = s.noNak := rfl
@[simp] theorem State.begin_arrived (s : State) : (State.begin s).arrived = s.arrived := rfl
@[simp] theorem State.begin_inBuf (s : State) : (State.begin s).inBuf = s.inBuf := rfl
@[simp] theorem State.begin_outBuf (s : State) : (State.begin s).outBuf = s.outBuf := rfl
@[simp] theorem State.begin_rtx (s : State) : (State.begin s).rtx = s.rtx := rfl
@[simp] theorem State.begin_ackt (s : State) : (State.begin s).ackt = s.ackt := rfl
@[simp] theorem State.begin_anom (s : State) : (State.begin s).anom = s.anom := rfl
@[simp] theorem State.begin_fcause (s : State) : (State.begin s).fcause = s.fcause := rfl
@[simp] theorem State.begin_nl (s : State) : (State.begin s).nl = s.nl := rfl
@[simp] theorem State.begin_rx (s : State) : (State.begin s).rx = s.rx := rfl
@[simp] theorem State.begin_out (s : State) : (State.begin s).out = [] := rfl
@[simp] theorem State.begin_sel (s : State) : (State.begin s).sel = s.sel := rfl
@[simp] theorem State.begin_agenda (s : State) : (State.begin s).agenda = s.agenda := rfl
@[simp] theorem State.begin_turn (s : State) : (State.begin s).turn = s.turn := rfl
@[simp] theorem State.begin_timeouts (s : State) : (State.begin s).timeouts = s.timeouts := rfl

@[simp] theorem State.setAe_ctl (v : Seq) (s : State) : (State.setAe v s).ctl = s.ctl := rfl
@[simp] theorem State.setAe_ae (v : Seq) (s : State) : (State.setAe v s).ae = v := rfl
@[simp] theorem State.setAe_nfts (v : Seq) (s : State) : (State.setAe v s).nfts = s.nfts := rfl
@[simp] theorem State.setAe_fe (v : Seq) (s : State) : (State.setAe v s).fe = s.fe := rfl
@[simp] theorem State.setAe_noNak (v : Seq) (s : State) : (State.setAe v s).noNak = s.noNak := rfl
@[simp] theorem State.setAe_arrived (v : Seq) (s : State) :
    (State.setAe v s).arrived = s.arrived := rfl
@[simp] theorem State.setAe_inBuf (v : Seq) (s : State) : (State.setAe v s).inBuf = s.inBuf := rfl
@[simp] theorem State.setAe_outBuf (v : Seq) (s : State) :
    (State.setAe v s).outBuf = s.outBuf := rfl
@[simp] theorem State.setAe_rtx (v : Seq) (s : State) : (State.setAe v s).rtx = s.rtx := rfl
@[simp] theorem State.setAe_ackt (v : Seq) (s : State) : (State.setAe v s).ackt = s.ackt := rfl
@[simp] theorem State.setAe_anom (v : Seq) (s : State) : (State.setAe v s).anom = s.anom := rfl
@[simp] theorem State.setAe_fcause (v : Seq) (s : State) :
    (State.setAe v s).fcause = s.fcause := rfl
@[simp] theorem State.setAe_nl (v : Seq) (s : State) : (State.setAe v s).nl = s.nl := rfl
@[simp] theorem State.setAe_rx (v : Seq) (s : State) : (State.setAe v s).rx = s.rx := rfl
@[simp] theorem State.setAe_out (v : Seq) (s : State) : (State.setAe v s).out = s.out := rfl
@[simp] theorem State.setAe_sel (v : Seq) (s : State) : (State.setAe v s).sel = s.sel := rfl
@[simp] theorem State.setAe_agenda (v : Seq) (s : State) :
    (State.setAe v s).agenda = s.agenda := rfl
@[simp] theorem State.setAe_turn (v : Seq) (s : State) : (State.setAe v s).turn = s.turn := rfl
@[simp] theorem State.setAe_timeouts (v : Seq) (s : State) :
    (State.setAe v s).timeouts = s.timeouts := rfl

@[simp] theorem State.setNfts_ctl (v : Seq) (s : State) : (State.setNfts v s).ctl = s.ctl := rfl
@[simp] theorem State.setNfts_ae (v : Seq) (s : State) : (State.setNfts v s).ae = s.ae := rfl
@[simp] theorem State.setNfts_nfts (v : Seq) (s : State) : (State.setNfts v s).nfts = v := rfl
@[simp] theorem State.setNfts_fe (v : Seq) (s : State) : (State.setNfts v s).fe = s.fe := rfl
@[simp] theorem State.setNfts_noNak (v : Seq) (s : State) :
    (State.setNfts v s).noNak = s.noNak := rfl
@[simp] theorem State.setNfts_arrived (v : Seq) (s : State) :
    (State.setNfts v s).arrived = s.arrived := rfl
@[simp] theorem State.setNfts_inBuf (v : Seq) (s : State) :
    (State.setNfts v s).inBuf = s.inBuf := rfl
@[simp] theorem State.setNfts_outBuf (v : Seq) (s : State) :
    (State.setNfts v s).outBuf = s.outBuf := rfl
@[simp] theorem State.setNfts_rtx (v : Seq) (s : State) : (State.setNfts v s).rtx = s.rtx := rfl
@[simp] theorem State.setNfts_ackt (v : Seq) (s : State) : (State.setNfts v s).ackt = s.ackt := rfl
@[simp] theorem State.setNfts_anom (v : Seq) (s : State) : (State.setNfts v s).anom = s.anom := rfl
@[simp] theorem State.setNfts_fcause (v : Seq) (s : State) :
    (State.setNfts v s).fcause = s.fcause := rfl
@[simp] theorem State.setNfts_nl (v : Seq) (s : State) : (State.setNfts v s).nl = s.nl := rfl
@[simp] theorem State.setNfts_rx (v : Seq) (s : State) : (State.setNfts v s).rx = s.rx := rfl
@[simp] theorem State.setNfts_out (v : Seq) (s : State) : (State.setNfts v s).out = s.out := rfl
@[simp] theorem State.setNfts_sel (v : Seq) (s : State) : (State.setNfts v s).sel = s.sel := rfl
@[simp] theorem State.setNfts_agenda (v : Seq) (s : State) :
    (State.setNfts v s).agenda = s.agenda := rfl
@[simp] theorem State.setNfts_turn (v : Seq) (s : State) : (State.setNfts v s).turn = s.turn := rfl
@[simp] theorem State.setNfts_timeouts (v : Seq) (s : State) :
    (State.setNfts v s).timeouts = s.timeouts := rfl

@[simp] theorem State.setFe_ctl (v : Seq) (s : State) : (State.setFe v s).ctl = s.ctl := rfl
@[simp] theorem State.setFe_ae (v : Seq) (s : State) : (State.setFe v s).ae = s.ae := rfl
@[simp] theorem State.setFe_nfts (v : Seq) (s : State) : (State.setFe v s).nfts = s.nfts := rfl
@[simp] theorem State.setFe_fe (v : Seq) (s : State) : (State.setFe v s).fe = v := rfl
@[simp] theorem State.setFe_noNak (v : Seq) (s : State) : (State.setFe v s).noNak = s.noNak := rfl
@[simp] theorem State.setFe_arrived (v : Seq) (s : State) :
    (State.setFe v s).arrived = s.arrived := rfl
@[simp] theorem State.setFe_inBuf (v : Seq) (s : State) : (State.setFe v s).inBuf = s.inBuf := rfl
@[simp] theorem State.setFe_outBuf (v : Seq) (s : State) :
    (State.setFe v s).outBuf = s.outBuf := rfl
@[simp] theorem State.setFe_rtx (v : Seq) (s : State) : (State.setFe v s).rtx = s.rtx := rfl
@[simp] theorem State.setFe_ackt (v : Seq) (s : State) : (State.setFe v s).ackt = s.ackt := rfl
@[simp] theorem State.setFe_anom (v : Seq) (s : State) : (State.setFe v s).anom = s.anom := rfl
@[simp] theorem State.setFe_fcause (v : Seq) (s : State) :
    (State.setFe v s).fcause = s.fcause := rfl
@[simp] theorem State.setFe_nl (v : Seq) (s : State) : (State.setFe v s).nl = s.nl := rfl
@[simp] theorem State.setFe_rx (v : Seq) (s : State) : (State.setFe v s).rx = s.rx := rfl
@[simp] theorem State.setFe_out (v : Seq) (s : State) : (State.setFe v s).out = s.out := rfl
@[simp] theorem State.setFe_sel (v : Seq) (s : State) : (State.setFe v s).sel = s.sel := rfl
@[simp] theorem State.setFe_agenda (v : Seq) (s : State) :
    (State.setFe v s).agenda = s.agenda := rfl
@[simp] theorem State.setFe_turn (v : Seq) (s : State) : (State.setFe v s).turn = s.turn := rfl
@[simp] theorem State.setFe_timeouts (v : Seq) (s : State) :
    (State.setFe v s).timeouts = s.timeouts := rfl

@[simp] theorem State.setNoNak_ctl (v : Bool) (s : State) : (State.setNoNak v s).ctl = s.ctl := rfl
@[simp] theorem State.setNoNak_ae (v : Bool) (s : State) : (State.setNoNak v s).ae = s.ae := rfl
@[simp] theorem State.setNoNak_nfts (v : Bool) (s : State) :
    (State.setNoNak v s).nfts = s.nfts := rfl
@[simp] theorem State.setNoNak_fe (v : Bool) (s : State) : (State.setNoNak v s).fe = s.fe := rfl
@[simp] theorem State.setNoNak_noNak (v : Bool) (s : State) : (State.setNoNak v s).noNak = v := rfl
@[simp] theorem State.setNoNak_arrived (v : Bool) (s : State) :
    (State.setNoNak v s).arrived = s.arrived := rfl
@[simp] theorem State.setNoNak_inBuf (v : Bool) (s : State) :
    (State.setNoNak v s).inBuf = s.inBuf := rfl
@[simp] theorem State.setNoNak_outBuf (v : Bool) (s : State) :
    (State.setNoNak v s).outBuf = s.outBuf := rfl
@[simp] theorem State.setNoNak_rtx (v : Bool) (s : State) : (State.setNoNak v s).rtx = s.rtx := rfl
@[simp] theorem State.setNoNak_ackt (v : Bool) (s : State) :
    (State.setNoNak v s).ackt = s.ackt := rfl
@[simp] theorem State.setNoNak_anom (v : Bool) (s : State) :
    (State.setNoNak v s).anom = s.anom := rfl
@[simp] theorem State.setNoNak_fcause (v : Bool) (s : State) :
    (State.setNoNak v s).fcause = s.fcause := rfl
@[simp] theorem State.setNoNak_nl (v : Bool) (s : State) : (State.setNoNak v s).nl = s.nl := rfl
@[simp] theorem State.setNoNak_rx (v : Bool) (s : State) : (State.setNoNak v s).rx = s.rx := rfl
@[simp] theorem State.setNoNak_out (v : Bool) (s : State) : (State.setNoNak v s).out = s.out := rfl
@[simp] theorem State.setNoNak_sel (v : Bool) (s : State) : (State.setNoNak v s).sel = s.sel := rfl
@[simp] theorem State.setNoNak_agenda (v : Bool) (s : State) :
    (State.setNoNak v s).agenda = s.agenda := rfl
@[simp] theorem State.setNoNak_turn (v : Bool) (s : State) :
    (State.setNoNak v s).turn = s.turn := rfl
@[simp] theorem State.setNoNak_timeouts (v : Bool) (s : State) :
    (State.setNoNak v s).timeouts = s.timeouts := rfl

@[simp] theorem State.setArrived_ctl (e : Slot) (v : Bool) (s : State) :
    (State.setArrived e v s).ctl = s.ctl := rfl
@[simp] theorem State.setArrived_ae (e : Slot) (v : Bool) (s : State) :
    (State.setArrived e v s).ae = s.ae := rfl
@[simp] theorem State.setArrived_nfts (e : Slot) (v : Bool) (s : State) :
    (State.setArrived e v s).nfts = s.nfts := rfl
@[simp] theorem State.setArrived_fe (e : Slot) (v : Bool) (s : State) :
    (State.setArrived e v s).fe = s.fe := rfl
@[simp] theorem State.setArrived_noNak (e : Slot) (v : Bool) (s : State) :
    (State.setArrived e v s).noNak = s.noNak := rfl
@[simp] theorem State.setArrived_arrived (e : Slot) (v : Bool) (s : State) :
    (State.setArrived e v s).arrived = s.arrived.set e v := rfl
@[simp] theorem State.setArrived_inBuf (e : Slot) (v : Bool) (s : State) :
    (State.setArrived e v s).inBuf = s.inBuf := rfl
@[simp] theorem State.setArrived_outBuf (e : Slot) (v : Bool) (s : State) :
    (State.setArrived e v s).outBuf = s.outBuf := rfl
@[simp] theorem State.setArrived_rtx (e : Slot) (v : Bool) (s : State) :
    (State.setArrived e v s).rtx = s.rtx := rfl
@[simp] theorem State.setArrived_ackt (e : Slot) (v : Bool) (s : State) :
    (State.setArrived e v s).ackt = s.ackt := rfl
@[simp] theorem State.setArrived_anom (e : Slot) (v : Bool) (s : State) :
    (State.setArrived e v s).anom = s.anom := rfl
@[simp] theorem State.setArrived_fcause (e : Slot) (v : Bool) (s : State) :
    (State.setArrived e v s).fcause = s.fcause := rfl
@[simp] theorem State.setArrived_nl (e : Slot) (v : Bool) (s : State) :
    (State.setArrived e v s).nl = s.nl := rfl
@[simp] theorem State.setArrived_rx (e : Slot) (v : Bool) (s : State) :
    (State.setArrived e v s).rx = s.rx := rfl
@[simp] theorem State.setArrived_out (e : Slot) (v : Bool) (s : State) :
    (State.setArrived e v s).out = s.out := rfl
@[simp] theorem State.setArrived_sel (e : Slot) (v : Bool) (s : State) :
    (State.setArrived e v s).sel = s.sel := rfl
@[simp] theorem State.setArrived_agenda (e : Slot) (v : Bool) (s : State) :
    (State.setArrived e v s).agenda = s.agenda := rfl
@[simp] theorem State.setArrived_turn (e : Slot) (v : Bool) (s : State) :
    (State.setArrived e v s).turn = s.turn := rfl
@[simp] theorem State.setArrived_timeouts (e : Slot) (v : Bool) (s : State) :
    (State.setArrived e v s).timeouts = s.timeouts := rfl

@[simp] theorem State.writeIn_ctl (e : Slot) (p : Packet) (s : State) :
    (State.writeIn e p s).ctl = s.ctl := rfl
@[simp] theorem State.writeIn_ae (e : Slot) (p : Packet) (s : State) :
    (State.writeIn e p s).ae = s.ae := rfl
@[simp] theorem State.writeIn_nfts (e : Slot) (p : Packet) (s : State) :
    (State.writeIn e p s).nfts = s.nfts := rfl
@[simp] theorem State.writeIn_fe (e : Slot) (p : Packet) (s : State) :
    (State.writeIn e p s).fe = s.fe := rfl
@[simp] theorem State.writeIn_noNak (e : Slot) (p : Packet) (s : State) :
    (State.writeIn e p s).noNak = s.noNak := rfl
@[simp] theorem State.writeIn_arrived (e : Slot) (p : Packet) (s : State) :
    (State.writeIn e p s).arrived = s.arrived := rfl
@[simp] theorem State.writeIn_inBuf (e : Slot) (p : Packet) (s : State) :
    (State.writeIn e p s).inBuf = s.inBuf.write e p := rfl
@[simp] theorem State.writeIn_outBuf (e : Slot) (p : Packet) (s : State) :
    (State.writeIn e p s).outBuf = s.outBuf := rfl
@[simp] theorem State.writeIn_rtx (e : Slot) (p : Packet) (s : State) :
    (State.writeIn e p s).rtx = s.rtx := rfl
@[simp] theorem State.writeIn_ackt (e : Slot) (p : Packet) (s : State) :
    (State.writeIn e p s).ackt = s.ackt := rfl
@[simp] theorem State.writeIn_anom (e : Slot) (p : Packet) (s : State) :
    (State.writeIn e p s).anom = s.anom := rfl
@[simp] theorem State.writeIn_fcause (e : Slot) (p : Packet) (s : State) :
    (State.writeIn e p s).fcause = s.fcause := rfl
@[simp] theorem State.writeIn_nl (e : Slot) (p : Packet) (s : State) :
    (State.writeIn e p s).nl = s.nl := rfl
@[simp] theorem State.writeIn_rx (e : Slot) (p : Packet) (s : State) :
    (State.writeIn e p s).rx = s.rx := rfl
@[simp] theorem State.writeIn_out (e : Slot) (p : Packet) (s : State) :
    (State.writeIn e p s).out = s.out := rfl
@[simp] theorem State.writeIn_sel (e : Slot) (p : Packet) (s : State) :
    (State.writeIn e p s).sel = s.sel := rfl
@[simp] theorem State.writeIn_agenda (e : Slot) (p : Packet) (s : State) :
    (State.writeIn e p s).agenda = s.agenda := rfl
@[simp] theorem State.writeIn_turn (e : Slot) (p : Packet) (s : State) :
    (State.writeIn e p s).turn = s.turn := rfl
@[simp] theorem State.writeIn_timeouts (e : Slot) (p : Packet) (s : State) :
    (State.writeIn e p s).timeouts = s.timeouts := rfl

@[simp] theorem State.writeOut_ctl (e : Slot) (p : Packet) (s : State) :
    (State.writeOut e p s).ctl = s.ctl := rfl
@[simp] theorem State.writeOut_ae (e : Slot) (p : Packet) (s : State) :
    (State.writeOut e p s).ae = s.ae := rfl
@[simp] theorem State.writeOut_nfts (e : Slot) (p : Packet) (s : State) :
    (State.writeOut e p s).nfts = s.nfts := rfl
@[simp] theorem State.writeOut_fe (e : Slot) (p : Packet) (s : State) :
    (State.writeOut e p s).fe = s.fe := rfl
@[simp] theorem State.writeOut_noNak (e : Slot) (p : Packet) (s : State) :
    (State.writeOut e p s).noNak = s.noNak := rfl
@[simp] theorem State.writeOut_arrived (e : Slot) (p : Packet) (s : State) :
    (State.writeOut e p s).arrived = s.arrived := rfl
@[simp] theorem State.writeOut_inBuf (e : Slot) (p : Packet) (s : State) :
    (State.writeOut e p s).inBuf = s.inBuf := rfl
@[simp] theorem State.writeOut_outBuf (e : Slot) (p : Packet) (s : State) :
    (State.writeOut e p s).outBuf = s.outBuf.write e p := rfl
@[simp] theorem State.writeOut_rtx (e : Slot) (p : Packet) (s : State) :
    (State.writeOut e p s).rtx = s.rtx := rfl
@[simp] theorem State.writeOut_ackt (e : Slot) (p : Packet) (s : State) :
    (State.writeOut e p s).ackt = s.ackt := rfl
@[simp] theorem State.writeOut_anom (e : Slot) (p : Packet) (s : State) :
    (State.writeOut e p s).anom = s.anom := rfl
@[simp] theorem State.writeOut_fcause (e : Slot) (p : Packet) (s : State) :
    (State.writeOut e p s).fcause = s.fcause := rfl
@[simp] theorem State.writeOut_nl (e : Slot) (p : Packet) (s : State) :
    (State.writeOut e p s).nl = s.nl := rfl
@[simp] theorem State.writeOut_rx (e : Slot) (p : Packet) (s : State) :
    (State.writeOut e p s).rx = s.rx := rfl
@[simp] theorem State.writeOut_out (e : Slot) (p : Packet) (s : State) :
    (State.writeOut e p s).out = s.out := rfl
@[simp] theorem State.writeOut_sel (e : Slot) (p : Packet) (s : State) :
    (State.writeOut e p s).sel = s.sel := rfl
@[simp] theorem State.writeOut_agenda (e : Slot) (p : Packet) (s : State) :
    (State.writeOut e p s).agenda = s.agenda := rfl
@[simp] theorem State.writeOut_turn (e : Slot) (p : Packet) (s : State) :
    (State.writeOut e p s).turn = s.turn := rfl
@[simp] theorem State.writeOut_timeouts (e : Slot) (p : Packet) (s : State) :
    (State.writeOut e p s).timeouts = s.timeouts := rfl

@[simp] theorem State.setRtx_ctl (e : Slot) (v : RtxEntry) (s : State) :
    (State.setRtx e v s).ctl = s.ctl := rfl
@[simp] theorem State.setRtx_ae (e : Slot) (v : RtxEntry) (s : State) :
    (State.setRtx e v s).ae = s.ae := rfl
@[simp] theorem State.setRtx_nfts (e : Slot) (v : RtxEntry) (s : State) :
    (State.setRtx e v s).nfts = s.nfts := rfl
@[simp] theorem State.setRtx_fe (e : Slot) (v : RtxEntry) (s : State) :
    (State.setRtx e v s).fe = s.fe := rfl
@[simp] theorem State.setRtx_noNak (e : Slot) (v : RtxEntry) (s : State) :
    (State.setRtx e v s).noNak = s.noNak := rfl
@[simp] theorem State.setRtx_arrived (e : Slot) (v : RtxEntry) (s : State) :
    (State.setRtx e v s).arrived = s.arrived := rfl
@[simp] theorem State.setRtx_inBuf (e : Slot) (v : RtxEntry) (s : State) :
    (State.setRtx e v s).inBuf = s.inBuf := rfl
@[simp] theorem State.setRtx_outBuf (e : Slot) (v : RtxEntry) (s : State) :
    (State.setRtx e v s).outBuf = s.outBuf := rfl
@[simp] theorem State.setRtx_rtx (e : Slot) (v : RtxEntry) (s : State) :
    (State.setRtx e v s).rtx = s.rtx.set e v := rfl
@[simp] theorem State.setRtx_ackt (e : Slot) (v : RtxEntry) (s : State) :
    (State.setRtx e v s).ackt = s.ackt := rfl
@[simp] theorem State.setRtx_anom (e : Slot) (v : RtxEntry) (s : State) :
    (State.setRtx e v s).anom = s.anom := rfl
@[simp] theorem State.setRtx_fcause (e : Slot) (v : RtxEntry) (s : State) :
    (State.setRtx e v s).fcause = s.fcause := rfl
@[simp] theorem State.setRtx_nl (e : Slot) (v : RtxEntry) (s : State) :
    (State.setRtx e v s).nl = s.nl := rfl
@[simp] theorem State.setRtx_rx (e : Slot) (v : RtxEntry) (s : State) :
    (State.setRtx e v s).rx = s.rx := rfl
@[simp] theorem State.setRtx_out (e : Slot) (v : RtxEntry) (s : State) :
    (State.setRtx e v s).out = s.out := rfl
@[simp] theorem State.setRtx_sel (e : Slot) (v : RtxEntry) (s : State) :
    (State.setRtx e v s).sel = s.sel := rfl
@[simp] theorem State.setRtx_agenda (e : Slot) (v : RtxEntry) (s : State) :
    (State.setRtx e v s).agenda = s.agenda := rfl
@[simp] theorem State.setRtx_turn (e : Slot) (v : RtxEntry) (s : State) :
    (State.setRtx e v s).turn = s.turn := rfl
@[simp] theorem State.setRtx_timeouts (e : Slot) (v : RtxEntry) (s : State) :
    (State.setRtx e v s).timeouts = s.timeouts := rfl

@[simp] theorem State.setAckt_ctl (v : AckTimer) (s : State) :
    (State.setAckt v s).ctl = s.ctl := rfl
@[simp] theorem State.setAckt_ae (v : AckTimer) (s : State) : (State.setAckt v s).ae = s.ae := rfl
@[simp] theorem State.setAckt_nfts (v : AckTimer) (s : State) :
    (State.setAckt v s).nfts = s.nfts := rfl
@[simp] theorem State.setAckt_fe (v : AckTimer) (s : State) : (State.setAckt v s).fe = s.fe := rfl
@[simp] theorem State.setAckt_noNak (v : AckTimer) (s : State) :
    (State.setAckt v s).noNak = s.noNak := rfl
@[simp] theorem State.setAckt_arrived (v : AckTimer) (s : State) :
    (State.setAckt v s).arrived = s.arrived := rfl
@[simp] theorem State.setAckt_inBuf (v : AckTimer) (s : State) :
    (State.setAckt v s).inBuf = s.inBuf := rfl
@[simp] theorem State.setAckt_outBuf (v : AckTimer) (s : State) :
    (State.setAckt v s).outBuf = s.outBuf := rfl
@[simp] theorem State.setAckt_rtx (v : AckTimer) (s : State) :
    (State.setAckt v s).rtx = s.rtx := rfl
@[simp] theorem State.setAckt_ackt (v : AckTimer) (s : State) : (State.setAckt v s).ackt = v := rfl
@[simp] theorem State.setAckt_anom (v : AckTimer) (s : State) :
    (State.setAckt v s).anom = s.anom := rfl
@[simp] theorem State.setAckt_fcause (v : AckTimer) (s : State) :
    (State.setAckt v s).fcause = s.fcause := rfl
@[simp] theorem State.setAckt_nl (v : AckTimer) (s : State) : (State.setAckt v s).nl = s.nl := rfl
@[simp] theorem State.setAckt_rx (v : AckTimer) (s : State) : (State.setAckt v s).rx = s.rx := rfl
@[simp] theorem State.setAckt_out (v : AckTimer) (s : State) :
    (State.setAckt v s).out = s.out := rfl
@[simp] theorem State.setAckt_sel (v : AckTimer) (s : State) :
    (State.setAckt v s).sel = s.sel := rfl
@[simp] theorem State.setAckt_agenda (v : AckTimer) (s : State) :
    (State.setAckt v s).agenda = s.agenda := rfl
@[simp] theorem State.setAckt_turn (v : AckTimer) (s : State) :
    (State.setAckt v s).turn = s.turn := rfl
@[simp] theorem State.setAckt_timeouts (v : AckTimer) (s : State) :
    (State.setAckt v s).timeouts = s.timeouts := rfl

@[simp] theorem State.setAnom_ctl (v : Bool) (s : State) : (State.setAnom v s).ctl = s.ctl := rfl
@[simp] theorem State.setAnom_ae (v : Bool) (s : State) : (State.setAnom v s).ae = s.ae := rfl
@[simp] theorem State.setAnom_nfts (v : Bool) (s : State) : (State.setAnom v s).nfts = s.nfts := rfl
@[simp] theorem State.setAnom_fe (v : Bool) (s : State) : (State.setAnom v s).fe = s.fe := rfl
@[simp] theorem State.setAnom_noNak (v : Bool) (s : State) :
    (State.setAnom v s).noNak = s.noNak := rfl
@[simp] theorem State.setAnom_arrived (v : Bool) (s : State) :
    (State.setAnom v s).arrived = s.arrived := rfl
@[simp] theorem State.setAnom_inBuf (v : Bool) (s : State) :
    (State.setAnom v s).inBuf = s.inBuf := rfl
@[simp] theorem State.setAnom_outBuf (v : Bool) (s : State) :
    (State.setAnom v s).outBuf = s.outBuf := rfl
@[simp] theorem State.setAnom_rtx (v : Bool) (s : State) : (State.setAnom v s).rtx = s.rtx := rfl
@[simp] theorem State.setAnom_ackt (v : Bool) (s : State) : (State.setAnom v s).ackt = s.ackt := rfl
@[simp] theorem State.setAnom_anom (v : Bool) (s : State) : (State.setAnom v s).anom = v := rfl
@[simp] theorem State.setAnom_fcause (v : Bool) (s : State) :
    (State.setAnom v s).fcause = s.fcause := rfl
@[simp] theorem State.setAnom_nl (v : Bool) (s : State) : (State.setAnom v s).nl = s.nl := rfl
@[simp] theorem State.setAnom_rx (v : Bool) (s : State) : (State.setAnom v s).rx = s.rx := rfl
@[simp] theorem State.setAnom_out (v : Bool) (s : State) : (State.setAnom v s).out = s.out := rfl
@[simp] theorem State.setAnom_sel (v : Bool) (s : State) : (State.setAnom v s).sel = s.sel := rfl
@[simp] theorem State.setAnom_agenda (v : Bool) (s : State) :
    (State.setAnom v s).agenda = s.agenda := rfl
@[simp] theorem State.setAnom_turn (v : Bool) (s : State) : (State.setAnom v s).turn = s.turn := rfl
@[simp] theorem State.setAnom_timeouts (v : Bool) (s : State) :
    (State.setAnom v s).timeouts = s.timeouts := rfl

@[simp] theorem State.setNl_ctl (v : Option Packet) (s : State) :
    (State.setNl v s).ctl = s.ctl := rfl
@[simp] theorem State.setNl_ae (v : Option Packet) (s : State) : (State.setNl v s).ae = s.ae := rfl
@[simp] theorem State.setNl_nfts (v : Option Packet) (s : State) :
    (State.setNl v s).nfts = s.nfts := rfl
@[simp] theorem State.setNl_fe (v : Option Packet) (s : State) : (State.setNl v s).fe = s.fe := rfl
@[simp] theorem State.setNl_noNak (v : Option Packet) (s : State) :
    (State.setNl v s).noNak = s.noNak := rfl
@[simp] theorem State.setNl_arrived (v : Option Packet) (s : State) :
    (State.setNl v s).arrived = s.arrived := rfl
@[simp] theorem State.setNl_inBuf (v : Option Packet) (s : State) :
    (State.setNl v s).inBuf = s.inBuf := rfl
@[simp] theorem State.setNl_outBuf (v : Option Packet) (s : State) :
    (State.setNl v s).outBuf = s.outBuf := rfl
@[simp] theorem State.setNl_rtx (v : Option Packet) (s : State) :
    (State.setNl v s).rtx = s.rtx := rfl
@[simp] theorem State.setNl_ackt (v : Option Packet) (s : State) :
    (State.setNl v s).ackt = s.ackt := rfl
@[simp] theorem State.setNl_anom (v : Option Packet) (s : State) :
    (State.setNl v s).anom = s.anom := rfl
@[simp] theorem State.setNl_fcause (v : Option Packet) (s : State) :
    (State.setNl v s).fcause = s.fcause := rfl
@[simp] theorem State.setNl_nl (v : Option Packet) (s : State) : (State.setNl v s).nl = v := rfl
@[simp] theorem State.setNl_rx (v : Option Packet) (s : State) : (State.setNl v s).rx = s.rx := rfl
@[simp] theorem State.setNl_out (v : Option Packet) (s : State) :
    (State.setNl v s).out = s.out := rfl
@[simp] theorem State.setNl_sel (v : Option Packet) (s : State) :
    (State.setNl v s).sel = s.sel := rfl
@[simp] theorem State.setNl_agenda (v : Option Packet) (s : State) :
    (State.setNl v s).agenda = s.agenda := rfl
@[simp] theorem State.setNl_turn (v : Option Packet) (s : State) :
    (State.setNl v s).turn = s.turn := rfl
@[simp] theorem State.setNl_timeouts (v : Option Packet) (s : State) :
    (State.setNl v s).timeouts = s.timeouts := rfl

@[simp] theorem State.setRx_ctl (v : Option RxItem) (s : State) :
    (State.setRx v s).ctl = s.ctl := rfl
@[simp] theorem State.setRx_ae (v : Option RxItem) (s : State) : (State.setRx v s).ae = s.ae := rfl
@[simp] theorem State.setRx_nfts (v : Option RxItem) (s : State) :
    (State.setRx v s).nfts = s.nfts := rfl
@[simp] theorem State.setRx_fe (v : Option RxItem) (s : State) : (State.setRx v s).fe = s.fe := rfl
@[simp] theorem State.setRx_noNak (v : Option RxItem) (s : State) :
    (State.setRx v s).noNak = s.noNak := rfl
@[simp] theorem State.setRx_arrived (v : Option RxItem) (s : State) :
    (State.setRx v s).arrived = s.arrived := rfl
@[simp] theorem State.setRx_inBuf (v : Option RxItem) (s : State) :
    (State.setRx v s).inBuf = s.inBuf := rfl
@[simp] theorem State.setRx_outBuf (v : Option RxItem) (s : State) :
    (State.setRx v s).outBuf = s.outBuf := rfl
@[simp] theorem State.setRx_rtx (v : Option RxItem) (s : State) :
    (State.setRx v s).rtx = s.rtx := rfl
@[simp] theorem State.setRx_ackt (v : Option RxItem) (s : State) :
    (State.setRx v s).ackt = s.ackt := rfl
@[simp] theorem State.setRx_anom (v : Option RxItem) (s : State) :
    (State.setRx v s).anom = s.anom := rfl
@[simp] theorem State.setRx_fcause (v : Option RxItem) (s : State) :
    (State.setRx v s).fcause = s.fcause := rfl
@[simp] theorem State.setRx_nl (v : Option RxItem) (s : State) : (State.setRx v s).nl = s.nl := rfl
@[simp] theorem State.setRx_rx (v : Option RxItem) (s : State) : (State.setRx v s).rx = v := rfl
@[simp] theorem State.setRx_out (v : Option RxItem) (s : State) :
    (State.setRx v s).out = s.out := rfl
@[simp] theorem State.setRx_sel (v : Option RxItem) (s : State) :
    (State.setRx v s).sel = s.sel := rfl
@[simp] theorem State.setRx_agenda (v : Option RxItem) (s : State) :
    (State.setRx v s).agenda = s.agenda := rfl
@[simp] theorem State.setRx_turn (v : Option RxItem) (s : State) :
    (State.setRx v s).turn = s.turn := rfl
@[simp] theorem State.setRx_timeouts (v : Option RxItem) (s : State) :
    (State.setRx v s).timeouts = s.timeouts := rfl

@[simp] theorem State.setSel_ctl (e : Slot) (s : State) : (State.setSel e s).ctl = s.ctl := rfl
@[simp] theorem State.setSel_ae (e : Slot) (s : State) : (State.setSel e s).ae = s.ae := rfl
@[simp] theorem State.setSel_nfts (e : Slot) (s : State) : (State.setSel e s).nfts = s.nfts := rfl
@[simp] theorem State.setSel_fe (e : Slot) (s : State) : (State.setSel e s).fe = s.fe := rfl
@[simp] theorem State.setSel_noNak (e : Slot) (s : State) :
    (State.setSel e s).noNak = s.noNak := rfl
@[simp] theorem State.setSel_arrived (e : Slot) (s : State) :
    (State.setSel e s).arrived = s.arrived := rfl
@[simp] theorem State.setSel_inBuf (e : Slot) (s : State) :
    (State.setSel e s).inBuf = s.inBuf := rfl
@[simp] theorem State.setSel_outBuf (e : Slot) (s : State) :
    (State.setSel e s).outBuf = s.outBuf := rfl
@[simp] theorem State.setSel_rtx (e : Slot) (s : State) : (State.setSel e s).rtx = s.rtx := rfl
@[simp] theorem State.setSel_ackt (e : Slot) (s : State) : (State.setSel e s).ackt = s.ackt := rfl
@[simp] theorem State.setSel_anom (e : Slot) (s : State) : (State.setSel e s).anom = s.anom := rfl
@[simp] theorem State.setSel_fcause (e : Slot) (s : State) :
    (State.setSel e s).fcause = s.fcause := rfl
@[simp] theorem State.setSel_nl (e : Slot) (s : State) : (State.setSel e s).nl = s.nl := rfl
@[simp] theorem State.setSel_rx (e : Slot) (s : State) : (State.setSel e s).rx = s.rx := rfl
@[simp] theorem State.setSel_out (e : Slot) (s : State) : (State.setSel e s).out = s.out := rfl
@[simp] theorem State.setSel_sel (e : Slot) (s : State) : (State.setSel e s).sel = e := rfl
@[simp] theorem State.setSel_agenda (e : Slot) (s : State) :
    (State.setSel e s).agenda = s.agenda := rfl
@[simp] theorem State.setSel_turn (e : Slot) (s : State) : (State.setSel e s).turn = s.turn := rfl
@[simp] theorem State.setSel_timeouts (e : Slot) (s : State) :
    (State.setSel e s).timeouts = s.timeouts := rfl

@[simp] theorem State.setAgenda_ctl (l : List Move) (s : State) :
    (State.setAgenda l s).ctl = s.ctl := rfl
@[simp] theorem State.setAgenda_ae (l : List Move) (s : State) :
    (State.setAgenda l s).ae = s.ae := rfl
@[simp] theorem State.setAgenda_nfts (l : List Move) (s : State) :
    (State.setAgenda l s).nfts = s.nfts := rfl
@[simp] theorem State.setAgenda_fe (l : List Move) (s : State) :
    (State.setAgenda l s).fe = s.fe := rfl
@[simp] theorem State.setAgenda_noNak (l : List Move) (s : State) :
    (State.setAgenda l s).noNak = s.noNak := rfl
@[simp] theorem State.setAgenda_arrived (l : List Move) (s : State) :
    (State.setAgenda l s).arrived = s.arrived := rfl
@[simp] theorem State.setAgenda_inBuf (l : List Move) (s : State) :
    (State.setAgenda l s).inBuf = s.inBuf := rfl
@[simp] theorem State.setAgenda_outBuf (l : List Move) (s : State) :
    (State.setAgenda l s).outBuf = s.outBuf := rfl
@[simp] theorem State.setAgenda_rtx (l : List Move) (s : State) :
    (State.setAgenda l s).rtx = s.rtx := rfl
@[simp] theorem State.setAgenda_ackt (l : List Move) (s : State) :
    (State.setAgenda l s).ackt = s.ackt := rfl
@[simp] theorem State.setAgenda_anom (l : List Move) (s : State) :
    (State.setAgenda l s).anom = s.anom := rfl
@[simp] theorem State.setAgenda_fcause (l : List Move) (s : State) :
    (State.setAgenda l s).fcause = s.fcause := rfl
@[simp] theorem State.setAgenda_nl (l : List Move) (s : State) :
    (State.setAgenda l s).nl = s.nl := rfl
@[simp] theorem State.setAgenda_rx (l : List Move) (s : State) :
    (State.setAgenda l s).rx = s.rx := rfl
@[simp] theorem State.setAgenda_out (l : List Move) (s : State) :
    (State.setAgenda l s).out = s.out := rfl
@[simp] theorem State.setAgenda_sel (l : List Move) (s : State) :
    (State.setAgenda l s).sel = s.sel := rfl
@[simp] theorem State.setAgenda_agenda (l : List Move) (s : State) :
    (State.setAgenda l s).agenda = l := rfl
@[simp] theorem State.setAgenda_turn (l : List Move) (s : State) :
    (State.setAgenda l s).turn = s.turn := rfl
@[simp] theorem State.setAgenda_timeouts (l : List Move) (s : State) :
    (State.setAgenda l s).timeouts = s.timeouts := rfl

@[simp] theorem State.setTurn_ctl (n : Nat) (s : State) : (State.setTurn n s).ctl = s.ctl := rfl
@[simp] theorem State.setTurn_ae (n : Nat) (s : State) : (State.setTurn n s).ae = s.ae := rfl
@[simp] theorem State.setTurn_nfts (n : Nat) (s : State) : (State.setTurn n s).nfts = s.nfts := rfl
@[simp] theorem State.setTurn_fe (n : Nat) (s : State) : (State.setTurn n s).fe = s.fe := rfl
@[simp] theorem State.setTurn_noNak (n : Nat) (s : State) :
    (State.setTurn n s).noNak = s.noNak := rfl
@[simp] theorem State.setTurn_arrived (n : Nat) (s : State) :
    (State.setTurn n s).arrived = s.arrived := rfl
@[simp] theorem State.setTurn_inBuf (n : Nat) (s : State) :
    (State.setTurn n s).inBuf = s.inBuf := rfl
@[simp] theorem State.setTurn_outBuf (n : Nat) (s : State) :
    (State.setTurn n s).outBuf = s.outBuf := rfl
@[simp] theorem State.setTurn_rtx (n : Nat) (s : State) : (State.setTurn n s).rtx = s.rtx := rfl
@[simp] theorem State.setTurn_ackt (n : Nat) (s : State) : (State.setTurn n s).ackt = s.ackt := rfl
@[simp] theorem State.setTurn_anom (n : Nat) (s : State) : (State.setTurn n s).anom = s.anom := rfl
@[simp] theorem State.setTurn_fcause (n : Nat) (s : State) :
    (State.setTurn n s).fcause = s.fcause := rfl
@[simp] theorem State.setTurn_nl (n : Nat) (s : State) : (State.setTurn n s).nl = s.nl := rfl
@[simp] theorem State.setTurn_rx (n : Nat) (s : State) : (State.setTurn n s).rx = s.rx := rfl
@[simp] theorem State.setTurn_out (n : Nat) (s : State) : (State.setTurn n s).out = s.out := rfl
@[simp] theorem State.setTurn_sel (n : Nat) (s : State) : (State.setTurn n s).sel = s.sel := rfl
@[simp] theorem State.setTurn_agenda (n : Nat) (s : State) :
    (State.setTurn n s).agenda = s.agenda := rfl
@[simp] theorem State.setTurn_turn (n : Nat) (s : State) : (State.setTurn n s).turn = n := rfl
@[simp] theorem State.setTurn_timeouts (n : Nat) (s : State) :
    (State.setTurn n s).timeouts = s.timeouts := rfl

@[simp] theorem State.takeNl_ctl (s : State) : (State.takeNl s).ctl = s.ctl := rfl
@[simp] theorem State.takeNl_ae (s : State) : (State.takeNl s).ae = s.ae := rfl
@[simp] theorem State.takeNl_nfts (s : State) : (State.takeNl s).nfts = s.nfts := rfl
@[simp] theorem State.takeNl_fe (s : State) : (State.takeNl s).fe = s.fe := rfl
@[simp] theorem State.takeNl_noNak (s : State) : (State.takeNl s).noNak = s.noNak := rfl
@[simp] theorem State.takeNl_arrived (s : State) : (State.takeNl s).arrived = s.arrived := rfl
@[simp] theorem State.takeNl_inBuf (s : State) : (State.takeNl s).inBuf = s.inBuf := rfl
@[simp] theorem State.takeNl_outBuf (s : State) : (State.takeNl s).outBuf = s.outBuf := rfl
@[simp] theorem State.takeNl_rtx (s : State) : (State.takeNl s).rtx = s.rtx := rfl
@[simp] theorem State.takeNl_ackt (s : State) : (State.takeNl s).ackt = s.ackt := rfl
@[simp] theorem State.takeNl_anom (s : State) : (State.takeNl s).anom = s.anom := rfl
@[simp] theorem State.takeNl_fcause (s : State) : (State.takeNl s).fcause = s.fcause := rfl
@[simp] theorem State.takeNl_nl (s : State) : (State.takeNl s).nl = none := rfl
@[simp] theorem State.takeNl_rx (s : State) : (State.takeNl s).rx = s.rx := rfl
@[simp] theorem State.takeNl_out (s : State) : (State.takeNl s).out = [.takeNl] := rfl
@[simp] theorem State.takeNl_sel (s : State) : (State.takeNl s).sel = s.sel := rfl
@[simp] theorem State.takeNl_agenda (s : State) : (State.takeNl s).agenda = s.agenda := rfl
@[simp] theorem State.takeNl_turn (s : State) : (State.takeNl s).turn = s.turn := rfl
@[simp] theorem State.takeNl_timeouts (s : State) : (State.takeNl s).timeouts = s.timeouts := rfl

@[simp] theorem State.takeRx_ctl (s : State) : (State.takeRx s).ctl = s.ctl := rfl
@[simp] theorem State.takeRx_ae (s : State) : (State.takeRx s).ae = s.ae := rfl
@[simp] theorem State.takeRx_nfts (s : State) : (State.takeRx s).nfts = s.nfts := rfl
@[simp] theorem State.takeRx_fe (s : State) : (State.takeRx s).fe = s.fe := rfl
@[simp] theorem State.takeRx_noNak (s : State) : (State.takeRx s).noNak = s.noNak := rfl
@[simp] theorem State.takeRx_arrived (s : State) : (State.takeRx s).arrived = s.arrived := rfl
@[simp] theorem State.takeRx_inBuf (s : State) : (State.takeRx s).inBuf = s.inBuf := rfl
@[simp] theorem State.takeRx_outBuf (s : State) : (State.takeRx s).outBuf = s.outBuf := rfl
@[simp] theorem State.takeRx_rtx (s : State) : (State.takeRx s).rtx = s.rtx := rfl
@[simp] theorem State.takeRx_ackt (s : State) : (State.takeRx s).ackt = s.ackt := rfl
@[simp] theorem State.takeRx_anom (s : State) : (State.takeRx s).anom = s.anom := rfl
@[simp] theorem State.takeRx_fcause (s : State) : (State.takeRx s).fcause = s.fcause := rfl
@[simp] theorem State.takeRx_nl (s : State) : (State.takeRx s).nl = s.nl := rfl
@[simp] theorem State.takeRx_rx (s : State) : (State.takeRx s).rx = none := rfl
@[simp] theorem State.takeRx_out (s : State) : (State.takeRx s).out = [.takeRx] := rfl
@[simp] theorem State.takeRx_sel (s : State) : (State.takeRx s).sel = s.sel := rfl
@[simp] theorem State.takeRx_agenda (s : State) : (State.takeRx s).agenda = s.agenda := rfl
@[simp] theorem State.takeRx_turn (s : State) : (State.takeRx s).turn = s.turn := rfl
@[simp] theorem State.takeRx_timeouts (s : State) : (State.takeRx s).timeouts = s.timeouts := rfl

@[simp] theorem State.raiseFault_ctl (c : FaultCause) (s : State) :
    (State.raiseFault c s).ctl = .faulted := rfl
@[simp] theorem State.raiseFault_ae (c : FaultCause) (s : State) :
    (State.raiseFault c s).ae = s.ae := rfl
@[simp] theorem State.raiseFault_nfts (c : FaultCause) (s : State) :
    (State.raiseFault c s).nfts = s.nfts := rfl
@[simp] theorem State.raiseFault_fe (c : FaultCause) (s : State) :
    (State.raiseFault c s).fe = s.fe := rfl
@[simp] theorem State.raiseFault_noNak (c : FaultCause) (s : State) :
    (State.raiseFault c s).noNak = s.noNak := rfl
@[simp] theorem State.raiseFault_arrived (c : FaultCause) (s : State) :
    (State.raiseFault c s).arrived = s.arrived := rfl
@[simp] theorem State.raiseFault_inBuf (c : FaultCause) (s : State) :
    (State.raiseFault c s).inBuf = s.inBuf := rfl
@[simp] theorem State.raiseFault_outBuf (c : FaultCause) (s : State) :
    (State.raiseFault c s).outBuf = s.outBuf := rfl
@[simp] theorem State.raiseFault_rtx (c : FaultCause) (s : State) :
    (State.raiseFault c s).rtx = s.rtx := rfl
@[simp] theorem State.raiseFault_ackt (c : FaultCause) (s : State) :
    (State.raiseFault c s).ackt = s.ackt := rfl
@[simp] theorem State.raiseFault_anom (c : FaultCause) (s : State) :
    (State.raiseFault c s).anom = s.anom := rfl
@[simp] theorem State.raiseFault_fcause (c : FaultCause) (s : State) :
    (State.raiseFault c s).fcause = c.code := rfl
@[simp] theorem State.raiseFault_nl (c : FaultCause) (s : State) :
    (State.raiseFault c s).nl = s.nl := rfl
@[simp] theorem State.raiseFault_rx (c : FaultCause) (s : State) :
    (State.raiseFault c s).rx = s.rx := rfl
@[simp] theorem State.raiseFault_out (c : FaultCause) (s : State) :
    (State.raiseFault c s).out = s.out := rfl
@[simp] theorem State.raiseFault_sel (c : FaultCause) (s : State) :
    (State.raiseFault c s).sel = s.sel := rfl
@[simp] theorem State.raiseFault_agenda (c : FaultCause) (s : State) :
    (State.raiseFault c s).agenda = s.agenda := rfl
@[simp] theorem State.raiseFault_turn (c : FaultCause) (s : State) :
    (State.raiseFault c s).turn = s.turn := rfl
@[simp] theorem State.raiseFault_timeouts (c : FaultCause) (s : State) :
    (State.raiseFault c s).timeouts = s.timeouts := rfl

@[simp] theorem State.raiseAnomaly_ctl (c : AnomalyCause) (s : State) :
    (State.raiseAnomaly c s).ctl = s.ctl := rfl
@[simp] theorem State.raiseAnomaly_ae (c : AnomalyCause) (s : State) :
    (State.raiseAnomaly c s).ae = s.ae := rfl
@[simp] theorem State.raiseAnomaly_nfts (c : AnomalyCause) (s : State) :
    (State.raiseAnomaly c s).nfts = s.nfts := rfl
@[simp] theorem State.raiseAnomaly_fe (c : AnomalyCause) (s : State) :
    (State.raiseAnomaly c s).fe = s.fe := rfl
@[simp] theorem State.raiseAnomaly_noNak (c : AnomalyCause) (s : State) :
    (State.raiseAnomaly c s).noNak = s.noNak := rfl
@[simp] theorem State.raiseAnomaly_arrived (c : AnomalyCause) (s : State) :
    (State.raiseAnomaly c s).arrived = s.arrived := rfl
@[simp] theorem State.raiseAnomaly_inBuf (c : AnomalyCause) (s : State) :
    (State.raiseAnomaly c s).inBuf = s.inBuf := rfl
@[simp] theorem State.raiseAnomaly_outBuf (c : AnomalyCause) (s : State) :
    (State.raiseAnomaly c s).outBuf = s.outBuf := rfl
@[simp] theorem State.raiseAnomaly_rtx (c : AnomalyCause) (s : State) :
    (State.raiseAnomaly c s).rtx = s.rtx := rfl
@[simp] theorem State.raiseAnomaly_ackt (c : AnomalyCause) (s : State) :
    (State.raiseAnomaly c s).ackt = s.ackt := rfl
@[simp] theorem State.raiseAnomaly_anom (c : AnomalyCause) (s : State) :
    (State.raiseAnomaly c s).anom = true := rfl
@[simp] theorem State.raiseAnomaly_fcause (c : AnomalyCause) (s : State) :
    (State.raiseAnomaly c s).fcause = s.fcause := rfl
@[simp] theorem State.raiseAnomaly_nl (c : AnomalyCause) (s : State) :
    (State.raiseAnomaly c s).nl = s.nl := rfl
@[simp] theorem State.raiseAnomaly_rx (c : AnomalyCause) (s : State) :
    (State.raiseAnomaly c s).rx = s.rx := rfl
@[simp] theorem State.raiseAnomaly_out (c : AnomalyCause) (s : State) :
    (State.raiseAnomaly c s).out = s.out ++ [.anomaly c.code] := rfl
@[simp] theorem State.raiseAnomaly_sel (c : AnomalyCause) (s : State) :
    (State.raiseAnomaly c s).sel = s.sel := rfl
@[simp] theorem State.raiseAnomaly_agenda (c : AnomalyCause) (s : State) :
    (State.raiseAnomaly c s).agenda = s.agenda := rfl
@[simp] theorem State.raiseAnomaly_turn (c : AnomalyCause) (s : State) :
    (State.raiseAnomaly c s).turn = s.turn := rfl
@[simp] theorem State.raiseAnomaly_timeouts (c : AnomalyCause) (s : State) :
    (State.raiseAnomaly c s).timeouts = s.timeouts := rfl

@[simp] theorem State.tick_ctl (s : State) : (State.tick s).ctl = s.ctl := rfl
@[simp] theorem State.tick_ae (s : State) : (State.tick s).ae = s.ae := rfl
@[simp] theorem State.tick_nfts (s : State) : (State.tick s).nfts = s.nfts := rfl
@[simp] theorem State.tick_fe (s : State) : (State.tick s).fe = s.fe := rfl
@[simp] theorem State.tick_noNak (s : State) : (State.tick s).noNak = s.noNak := rfl
@[simp] theorem State.tick_arrived (s : State) : (State.tick s).arrived = s.arrived := rfl
@[simp] theorem State.tick_inBuf (s : State) : (State.tick s).inBuf = s.inBuf := rfl
@[simp] theorem State.tick_outBuf (s : State) : (State.tick s).outBuf = s.outBuf := rfl
@[simp] theorem State.tick_rtx (s : State) :
    (State.tick s).rtx = s.rtx.map (RtxEntry.tick (timerWidth s.timeouts)) := rfl
@[simp] theorem State.tick_ackt (s : State) :
    (State.tick s).ackt = s.ackt.tick (timerWidth s.timeouts) := rfl
@[simp] theorem State.tick_anom (s : State) : (State.tick s).anom = s.anom := rfl
@[simp] theorem State.tick_fcause (s : State) : (State.tick s).fcause = s.fcause := rfl
@[simp] theorem State.tick_nl (s : State) : (State.tick s).nl = s.nl := rfl
@[simp] theorem State.tick_rx (s : State) : (State.tick s).rx = s.rx := rfl
@[simp] theorem State.tick_out (s : State) : (State.tick s).out = [] := rfl
@[simp] theorem State.tick_sel (s : State) : (State.tick s).sel = s.sel := rfl
@[simp] theorem State.tick_agenda (s : State) : (State.tick s).agenda = s.agenda := rfl
@[simp] theorem State.tick_turn (s : State) : (State.tick s).turn = s.turn := rfl
@[simp] theorem State.tick_timeouts (s : State) : (State.tick s).timeouts = s.timeouts := rfl

end Sys2Proof.Machine
end

