-- ==== Sys2Proof/Laws/Tables.lean ====
section
/-! SUPPORT. The laws of slot tables and slot buffers: what a read gives after a write, and that every
buffer operation keeps the canonical form. -/

namespace Sys2Proof

theorem forall_slot {P : Slot → Prop} : (∀ e, P e) ↔ P 0 ∧ P 1 ∧ P 2 ∧ P 3 := by
  constructor
  · intro h
    exact ⟨h 0, h 1, h 2, h 3⟩
  · rintro ⟨h0, h1, h2, h3⟩ e
    match e with
    | 0 => exact h0
    | 1 => exact h1
    | 2 => exact h2
    | 3 => exact h3

theorem Quad.ext_get {α : Type} {q r : Quad α} (h : ∀ e, q.get e = r.get e) : q = r := by
  obtain ⟨h0, h1, h2, h3⟩ := forall_slot.mp h
  cases q
  cases r
  simp_all [Quad.get]

@[simp] theorem Quad.get_set_self {α : Type} (q : Quad α) (e : Slot) (v : α) :
    (q.set e v).get e = v := by
  revert e
  rw [forall_slot]
  exact ⟨rfl, rfl, rfl, rfl⟩

theorem Quad.get_set_of_ne {α : Type} (q : Quad α) {e d : Slot} (v : α) (h : d ≠ e) :
    (q.set e v).get d = q.get d := by
  revert e d
  simp only [forall_slot]
  simp [Quad.get, Quad.set]

theorem Quad.get_set {α : Type} (q : Quad α) (e d : Slot) (v : α) :
    (q.set e v).get d = if d = e then v else q.get d := by
  split
  · next h => rw [h, Quad.get_set_self]
  · next h => exact Quad.get_set_of_ne q v h

@[simp] theorem Quad.get_map {α β : Type} (f : α → β) (q : Quad α) (e : Slot) :
    (q.map f).get e = f (q.get e) := by
  revert e
  rw [forall_slot]
  exact ⟨rfl, rfl, rfl, rfl⟩

@[simp] theorem Quad.get_fill {α : Type} (v : α) (e : Slot) : (Quad.fill v).get e = v := by
  revert e
  rw [forall_slot]
  exact ⟨rfl, rfl, rfl, rfl⟩

@[simp] theorem Quad.set_get {α : Type} (q : Quad α) (e : Slot) : q.set e (q.get e) = q := by
  revert e
  rw [forall_slot]
  exact ⟨rfl, rfl, rfl, rfl⟩

@[simp] theorem Quad.set_set {α : Type} (q : Quad α) (e : Slot) (v w : α) :
    (q.set e v).set e w = q.set e w := by
  revert e
  rw [forall_slot]
  exact ⟨rfl, rfl, rfl, rfl⟩

end Sys2Proof

namespace Sys2Proof.Machine

@[simp] theorem Memory.read_nil (e : Slot) : Memory.read [] e = none := rfl

/-- A read after a write to the same slot gives what was written. -/
@[simp] theorem Memory.read_write_self (m : Memory) (e : Slot) (p : Packet) :
    (m.write e p).read e = some p := by
  induction m with
  | nil => simp [Memory.write, Memory.read]
  | cons c rest ih =>
    obtain ⟨a, q⟩ := c
    simp only [Memory.write]
    split
    · simp [Memory.read]
    · split
      · simp [Memory.read]
      · next h => simp [Memory.read, h, ih]

/-- A write leaves every other slot alone. -/
theorem Memory.read_write_of_ne (m : Memory) {e d : Slot} (p : Packet) (h : d ≠ e) :
    (m.write e p).read d = m.read d := by
  have hv : e.val ≠ d.val := fun hc => h (Fin.ext hc.symm)
  induction m with
  | nil => simp [Memory.write, Memory.read, hv]
  | cons c rest ih =>
    obtain ⟨a, q⟩ := c
    simp only [Memory.write]
    split
    · simp [Memory.read, hv]
    · split
      · next ha => simp [Memory.read, hv, ha]
      · simp [Memory.read, ih]

theorem Memory.read_write (m : Memory) (e d : Slot) (p : Packet) :
    (m.write e p).read d = if d = e then some p else m.read d := by
  split
  · next h => rw [h, Memory.read_write_self]
  · next h => exact Memory.read_write_of_ne m p h

theorem Memory.wfFrom_mono {lo lo' : Nat} {m : Memory} (h : m.wfFrom lo = true) (hl : lo' ≤ lo) :
    m.wfFrom lo' = true := by
  cases m with
  | nil => rfl
  | cons c rest =>
    simp only [Memory.wfFrom, Bool.and_eq_true, decide_eq_true_eq] at h ⊢
    exact ⟨⟨by omega, h.1.2⟩, h.2⟩

theorem Memory.wfFrom_write {lo : Nat} {m : Memory} {e : Slot} (p : Packet)
    (h : m.wfFrom lo = true) (he : lo ≤ e.val) : (m.write e p).wfFrom lo = true := by
  induction m generalizing lo with
  | nil =>
    simp only [Memory.write, Memory.wfFrom, Bool.and_eq_true, decide_eq_true_eq, and_true]
    exact ⟨he, e.isLt⟩
  | cons c rest ih =>
    obtain ⟨a, q⟩ := c
    have h' := h
    simp only [Memory.wfFrom, Bool.and_eq_true, decide_eq_true_eq] at h
    simp only [Memory.write]
    split
    · simp only [Memory.wfFrom, Bool.and_eq_true, decide_eq_true_eq]
      exact ⟨⟨he, e.isLt⟩, ⟨by omega, h.1.2⟩, h.2⟩
    · split
      · next ha =>
        simp only [Memory.wfFrom, Bool.and_eq_true, decide_eq_true_eq]
        exact ⟨⟨he, e.isLt⟩, ha ▸ h.2⟩
      · simp only [Memory.wfFrom, Bool.and_eq_true, decide_eq_true_eq]
        exact ⟨⟨h.1.1, h.1.2⟩, ih h.2 (by omega)⟩

/-- `MemWrite`, the one operation that changes a buffer, keeps the canonical form. -/
theorem Memory.wf_write {m : Memory} (e : Slot) (p : Packet) (h : m.wf = true) :
    (m.write e p).wf = true := Memory.wfFrom_write p h (Nat.zero_le _)

theorem Memory.read_none_of_wfFrom {lo : Nat} {m : Memory} {e : Slot} (h : m.wfFrom lo = true)
    (he : e.val < lo) : m.read e = none := by
  induction m generalizing lo with
  | nil => rfl
  | cons c rest ih =>
    simp only [Memory.wfFrom, Bool.and_eq_true, decide_eq_true_eq] at h
    have ha : ¬ c.1 = e.val := by omega
    simp only [Memory.read, ha, if_false]
    exact ih h.2 (by omega)

theorem Memory.ext_wfFrom {lo : Nat} {m n : Memory} (hm : m.wfFrom lo = true)
    (hn : n.wfFrom lo = true) (h : ∀ e : Slot, m.read e = n.read e) : m = n := by
  induction m generalizing lo n with
  | nil =>
    cases n with
    | nil => rfl
    | cons c rest =>
      simp only [Memory.wfFrom, Bool.and_eq_true, decide_eq_true_eq] at hn
      have := h ⟨c.1, hn.1.2⟩
      simp [Memory.read] at this
  | cons c rest ih =>
    simp only [Memory.wfFrom, Bool.and_eq_true, decide_eq_true_eq] at hm
    cases n with
    | nil =>
      have := h ⟨c.1, hm.1.2⟩
      simp [Memory.read] at this
    | cons d rest' =>
      simp only [Memory.wfFrom, Bool.and_eq_true, decide_eq_true_eq] at hn
      have hc := h ⟨c.1, hm.1.2⟩
      have hd := h ⟨d.1, hn.1.2⟩
      simp only [Memory.read, if_true] at hc hd
      have hcd : c.1 = d.1 := by
        rcases Nat.lt_trichotomy c.1 d.1 with hlt | heq | hgt
        · have hr := Memory.read_none_of_wfFrom (e := ⟨c.1, hm.1.2⟩) hn.2 (by simp; omega)
          have hne : ¬ d.1 = c.1 := by omega
          simp [hne, hr] at hc
        · exact heq
        · have hr := Memory.read_none_of_wfFrom (e := ⟨d.1, hn.1.2⟩) hm.2 (by simp; omega)
          have hne : ¬ c.1 = d.1 := by omega
          simp [hne, hr] at hd
      have hp : c.2 = d.2 := by simpa [hcd.symm] using hc
      have hrest : rest = rest' := by
        refine ih hm.2 (hcd ▸ hn.2) fun e => ?_
        by_cases he : e.val ≤ c.1
        · rw [Memory.read_none_of_wfFrom hm.2 (by omega),
            Memory.read_none_of_wfFrom hn.2 (by omega)]
        · have := h e
          simpa [Memory.read, show ¬ c.1 = e.val by omega, show ¬ d.1 = e.val by omega] using this
      rw [hrest, Prod.ext hcd hp]

/-- The form is canonical: buffers that read alike are the same data. -/
theorem Memory.ext_read {m n : Memory} (hm : m.wf = true) (hn : n.wf = true)
    (h : ∀ e : Slot, m.read e = n.read e) : m = n := Memory.ext_wfFrom hm hn h

theorem reset_buffers_wf : State.reset.inBuf.wf = true ∧ State.reset.outBuf.wf = true := by decide

end Sys2Proof.Machine
end

