-- ==== Sys2Proof/Laws/Sending.lean ====
section
/-! SUPPORT. What the flow of a step, the timer manager and the frame assembler can do, said once. -/

namespace Sys2Proof.Machine

@[simp] theorem Flow.andThen_running (s : State) (k : State → Flow) : (Flow.running s).andThen k = k s := rfl

@[simp] theorem Flow.andThen_ended (s : State) (k : State → Flow) :
    (Flow.ended s).andThen k = .ended s := rfl

@[simp] theorem Flow.state_running (s : State) : (Flow.running s).state = s := rfl

@[simp] theorem Flow.state_ended (s : State) : (Flow.ended s).state = s := rfl

@[simp] theorem Flow.outcome_eq (f : Flow) : f.outcome = .next f.state := rfl

/-- A step that goes on in every case ends in what its continuation leaves. -/
theorem Flow.andThen_state (f : Flow) (k : State → State) :
    (f.andThen fun s => .running (k s)).state = match f with | .running s => k s | .ended s => s := by
  cases f <;> rfl

theorem withSlot_some {m : Memory} {e : Slot} {p : Packet} (s : State) (k : Packet → Flow)
    (h : m.read e = some p) : withSlot m e s k = k p := by
  simp [withSlot, h]

theorem withSlot_none {m : Memory} {e : Slot} (s : State) (k : Packet → Flow)
    (h : m.read e = none) : withSlot m e s k = .ended (s.raiseFault .unwrittenSlot) := by
  simp [withSlot, h]

/-- Is the slot's entry live with the tag of another sequence number (41 R124)? -/
abbrev Taken (q : Seq) (s : State) : Prop :=
  (s.rtx.get (slot q)).live = true ∧ (s.rtx.get (slot q)).tag ≠ q

theorem armRetransmit_running {q : Seq} {s : State} (h : ¬ Taken q s) :
    armRetransmit q s = .running (s.setRtx (slot q) (RtxEntry.armedFor s.timeouts q)) := by
  simp only [armRetransmit]
  exact if_neg h

theorem armRetransmit_ended {q : Seq} {s : State} (h : Taken q s) :
    armRetransmit q s = .ended (s.raiseFault .slotReuse) := by
  simp only [armRetransmit]
  exact if_pos h

/-- What `cancel_retransmit(q)` leaves of each entry. -/
theorem cancelRetransmit_rtx (q : Seq) (s : State) (e : Slot) :
    (cancelRetransmit q s).rtx.get e =
      if slot (s.rtx.get e).tag = e ∧ (s.rtx.get e).tag = q then (s.rtx.get e).cancelled
      else s.rtx.get e := by
  simp only [cancelRetransmit]
  by_cases he : e = slot q
  · subst he
    by_cases ht : (s.rtx.get (slot q)).tag = q
    · simp [ht]
    · simp [ht]
  · have hn : ¬ (slot (s.rtx.get e).tag = e ∧ (s.rtx.get e).tag = q) := by
      rintro ⟨h1, h2⟩
      exact he (by rw [← h1, h2])
    rw [if_neg hn]
    split
    · exact Quad.get_set_of_ne _ _ he
    · rfl

/-- `cancel_retransmit` changes the timer table only. -/
theorem cancelRetransmit_frame (q : Seq) (s : State) :
    cancelRetransmit q s = { s with rtx := (cancelRetransmit q s).rtx } := by
  simp only [cancelRetransmit]
  split <;> rfl

/-- Everything `send_frame(DATA, nr)` can do (42 R150). -/
theorem sendData_cases (nr : Seq) (s : State) :
    (s.outBuf.read (slot nr) = none ∧ sendData nr s = .ended (s.raiseFault .unwrittenSlot)) ∨
    (∃ p, s.outBuf.read (slot nr) = some p ∧ Taken nr s ∧
      sendData nr s = .ended ((s.emit (.tx (dataFrame nr p s).toWord)).raiseFault .slotReuse)) ∨
    (∃ p, s.outBuf.read (slot nr) = some p ∧ ¬ Taken nr s ∧
      sendData nr s = .running (cancelAckDelay
        ((s.emit (.tx (dataFrame nr p s).toWord)).setRtx (slot nr)
          (RtxEntry.armedFor s.timeouts nr)))) := by
  cases h : s.outBuf.read (slot nr) with
  | none => exact .inl ⟨rfl, by simp only [sendData]; exact withSlot_none _ _ h⟩
  | some p =>
    right
    by_cases ht : Taken nr s
    · refine .inl ⟨p, rfl, ht, ?_⟩
      simp only [sendData]
      rw [withSlot_some _ _ h, armRetransmit_ended (s := s.emit _) ht]
      rfl
    · refine .inr ⟨p, rfl, ht, ?_⟩
      simp only [sendData]
      rw [withSlot_some _ _ h, armRetransmit_running (s := s.emit _) ht]
      rfl

/-- What `send_frame(NAK, 0)` leaves. -/
theorem sendNak_eq (nr : Seq) (s : State) :
    sendFrame .nak nr s =
      .running { s with
        noNak := false
        out := s.out ++ [.tx (controlFrame .nak nr s).toWord]
        ackt := AckTimer.idle } := rfl

/-- What `send_frame(ACK, 0)` leaves. -/
theorem sendAck_eq (nr : Seq) (s : State) :
    sendFrame .ack nr s =
      .running { s with
        out := s.out ++ [.tx (controlFrame .ack nr s).toWord]
        ackt := AckTimer.idle } := rfl

end Sys2Proof.Machine
end

