-- ==== Sys2Proof/Laws/SeqArith.lean ====
section
/-! SUPPORT. The sequence-arithmetic unit as plain 3-bit arithmetic. -/

namespace Sys2Proof.Machine

theorem inc_eq (n : Seq) : inc n = n + 1#3 := by
  revert n
  decide

theorem dec_eq (n : Seq) : dec n = n - 1#3 := by
  revert n
  decide

theorem tf_eq (s : State) : s.tf = s.fe + 4#3 := by
  have h : ∀ n : Seq, BitVec.ofNat 3 ((n.toNat + Config.nrBufs) % (Config.maxSeq + 1)) = n + 4#3 := by
    decide
  exact h s.fe

theorem seqDiff_eq (x y : Seq) : seqDiff x y = (x - y).toNat := by
  revert x y
  decide

/-- The comparator compares distances from the lower bound (40 R104). -/
theorem between_iff (a x b : Seq) : between a x b = true ↔ (x - a).toNat < (b - a).toNat := by
  revert a x b
  decide

theorem slot_eq_iff (p q : Seq) : slot p = slot q ↔ p = q ∨ p = q + 4#3 := by
  revert p q
  decide

theorem nout_eq (s : State) : s.nout = (s.nfts - s.ae).toNat := seqDiff_eq _ _

theorem credit_pos_iff (s : State) : 0 < s.credit ↔ s.nout < Config.nrBufs := by
  simp only [State.credit]
  omega

end Sys2Proof.Machine
end

