-- ==== Sys2Proof/Laws/Acknowledge.lean ====
section
/-! SUPPORT. Acknowledgement processing, said once (43 R183, R184): the loop ends by itself in every
state, and its effect has a closed form. -/

namespace Sys2Proof.Machine

theorem between_self_succ (ae nfts : Seq) : between (ae + 1#3) ae nfts = false := by
  revert ae nfts
  decide

theorem between_succ {ae a nfts : Seq} (h : between ae a nfts = true) (hne : a ≠ ae) :
    between (ae + 1#3) a nfts = true := by
  revert ae a nfts
  decide

theorem between_upper_ne {ae a nfts : Seq} (h : between ae a nfts = true) : a + 1#3 ≠ ae := by
  revert ae a nfts
  decide

theorem seqDiff_pred {ae a : Seq} (hne : a ≠ ae) : seqDiff a ae = seqDiff a (ae + 1#3) + 1 := by
  revert ae a
  decide

theorem seqDiff_self (a : Seq) : seqDiff a a = 0 := by
  revert a
  decide

theorem seqDiff_lt (a b : Seq) : seqDiff a b < 8 := by
  revert a b
  decide

theorem between_acked_self (ae t : Seq) : between ae t (ae + 1#3) = true ↔ t = ae := by
  revert ae t
  decide

theorem between_acked_succ {ae a : Seq} (t : Seq) (h : a + 1#3 ≠ ae) (hne : a ≠ ae) :
    between ae t (a + 1#3) = true ↔ t = ae ∨ between (ae + 1#3) t (a + 1#3) = true := by
  revert ae a t
  decide

@[simp] theorem RtxEntry.cancelled_tag (e : RtxEntry) : e.cancelled.tag = e.tag := rfl

@[simp] theorem RtxEntry.cancelled_cancelled (e : RtxEntry) :
    e.cancelled.cancelled = e.cancelled := rfl

@[simp] theorem acknowledgeOne_ae (s : State) : (acknowledgeOne s).ae = s.ae + 1#3 := by
  simp [acknowledgeOne, inc_eq]

@[simp] theorem acknowledgeOne_nfts (s : State) : (acknowledgeOne s).nfts = s.nfts := by
  simp only [acknowledgeOne, State.setAe_nfts]
  rw [cancelRetransmit_frame]

theorem acknowledgeOne_rtx (s : State) (e : Slot) :
    (acknowledgeOne s).rtx.get e =
      if slot (s.rtx.get e).tag = e ∧ (s.rtx.get e).tag = s.ae then (s.rtx.get e).cancelled
      else s.rtx.get e := by
  simp only [acknowledgeOne, State.setAe_rtx]
  exact cancelRetransmit_rtx s.ae s e

theorem acknowledgeOne_frame (s : State) :
    acknowledgeOne s = { s with ae := s.ae + 1#3, rtx := (acknowledgeOne s).rtx } := by
  simp only [acknowledgeOne, State.setAe, inc_eq]
  rw [cancelRetransmit_frame]

/-- An acknowledgement outside `[AE, NFTS)` does nothing (43 R183(a) to (c)). -/
theorem ackLoop_outside {k : Nat} {a : Seq} {n : Nat} {s : State}
    (h : between s.ae a s.nfts = false) : ackLoop k a n s = (n, s) := by
  cases k with
  | zero => rfl
  | succ k => simp [ackLoop, h]

/-- Cancelling the entries of `AE` and then those of `[AE + 1, a]` cancels those of `[AE, a]`. -/
theorem cancelled_step {x y : RtxEntry} {e : Slot} {ae a : Seq}
    (hb : between ae x.tag (a + 1#3) = true ↔
      x.tag = ae ∨ between (ae + 1#3) x.tag (a + 1#3) = true)
    (hy : y = if slot x.tag = e ∧ x.tag = ae then x.cancelled else x) :
    (if slot y.tag = e ∧ between (ae + 1#3) y.tag (a + 1#3) = true then y.cancelled else y) =
      if slot x.tag = e ∧ between ae x.tag (a + 1#3) = true then x.cancelled else x := by
  by_cases hA : slot x.tag = e ∧ x.tag = ae
  · rw [if_pos hA] at hy
    rw [if_pos (And.intro hA.1 (hb.mpr (.inl hA.2))), hy]
    split <;> rfl
  · rw [if_neg hA] at hy
    subst hy
    refine if_congr ?_ rfl rfl
    constructor
    · exact fun h => ⟨h.1, hb.mpr (.inr h.2)⟩
    · rintro ⟨h1, h2⟩
      exact ⟨h1, (hb.mp h2).resolve_left fun ht => hA ⟨h1, ht⟩⟩

/-- The loop's effect when `a` is outstanding: it ends by itself, just past `a` (43 R183(d)). -/
theorem ackLoop_inside (k : Nat) (a : Seq) (n : Nat) (s : State)
    (h : between s.ae a s.nfts = true) (hk : seqDiff a s.ae < k) :
    (ackLoop k a n s).1 = n + seqDiff a s.ae + 1 ∧
    (ackLoop k a n s).2.ae = a + 1#3 ∧
    (∀ e : Slot, (ackLoop k a n s).2.rtx.get e =
      if slot (s.rtx.get e).tag = e ∧ between s.ae (s.rtx.get e).tag (a + 1#3) = true
      then (s.rtx.get e).cancelled else s.rtx.get e) ∧
    (ackLoop k a n s).2 = { s with ae := a + 1#3, rtx := (ackLoop k a n s).2.rtx } := by
  induction k generalizing n s with
  | zero => omega
  | succ k ih =>
    simp only [ackLoop, h, if_true]
    by_cases ha : a = s.ae
    · have hout : between (acknowledgeOne s).ae a (acknowledgeOne s).nfts = false := by
        simp [ha, between_self_succ]
      rw [ackLoop_outside hout]
      refine ⟨by simp [ha, seqDiff_self], by simp [ha], fun e => ?_, ?_⟩
      · rw [acknowledgeOne_rtx, ha]
        simp only [between_acked_self]
      · rw [ha]
        exact acknowledgeOne_frame s
    · have hin : between (acknowledgeOne s).ae a (acknowledgeOne s).nfts = true := by
        simpa using between_succ h ha
      have hd := seqDiff_pred ha
      obtain ⟨h1, h2, h3, h4⟩ := ih (n + 1) (acknowledgeOne s) hin (by simp; omega)
      refine ⟨by rw [h1]; simp; omega, h2, fun e => ?_, ?_⟩
      · rw [h3 e, acknowledgeOne_ae]
        exact cancelled_step (between_acked_succ _ (between_upper_ne h) ha) (acknowledgeOne_rtx s e)
      · rw [h4]
        rw [acknowledgeOne_frame s]

/-- Acknowledgement processing has exactly the effect `AckEffect` says (43 R183, R184). -/
theorem ackProcess_effect (a : Seq) (s : State) : AckEffect a s (ackProcess a s) := by
  by_cases h : between s.ae a s.nfts = true
  · obtain ⟨h1, h2, h3, h4⟩ := ackLoop_inside (Config.maxSeq + 1) a 0 s h (seqDiff_lt _ _)
    have hg : ackProcess a s =
        (ackLoop (Config.maxSeq + 1) a 0 s).2.emit
          (.grant (BitVec.ofNat 3 (seqDiff a s.ae + 1))) := by
      simp only [ackProcess, grantCredit, h1]
      simp
    have hout : (ackLoop (Config.maxSeq + 1) a 0 s).2.out = s.out := by rw [h4]
    constructor
    · rw [hg]
      simp [h, h2]
    · rw [hg]
      simp [h, hout]
    · intro e
      rw [hg]
      simp only [State.emit_rtx, h3 e, h, true_and]
      rfl
    · rw [hg]
      conv_lhs => rw [h4]
      rw [State.emit_rtx, State.emit_ae, State.emit_out, h2, hout]
      rfl
  · have h' : between s.ae a s.nfts = false := by simpa using h
    have hg : ackProcess a s = s := by
      simp [ackProcess, ackLoop_outside h', grantCredit]
    constructor <;> simp [hg, h']

end Sys2Proof.Machine
end

