-- ==== Sys2Proof/Laws/Arrival.lean ====
section
/-! SUPPORT. The receiving side, said once: the source conditions, the NAK-or-delay decision, and the
drain loop (43 R173 to R177). -/

namespace Sys2Proof.Machine

theorem offered_iff (s : State) (p : Packet) :
    s.offered = some p ↔ s.ctl = .wait ∧ s.nout < Config.nrBufs ∧ s.nl = some p := by
  simp only [State.offered, credit_pos_iff]
  split
  · next h => simp [h.1, h.2]
  · next h =>
    simp only [false_iff, reduceCtorEq]
    exact fun hc => h ⟨hc.1, hc.2.1⟩

theorem arriving_iff (k : Kind) (s : State) (f : FrameWord) :
    s.arriving k = some f ↔ s.ctl = .wait ∧ s.rx = some (.frame f) ∧ f.kind = k := by
  simp only [State.arriving]
  split
  · next f' hc hr =>
    rw [hc, hr]
    by_cases hk : f'.kind = k
    · rw [if_pos hk]
      simp only [Option.some.injEq, RxItem.frame.injEq, true_and]
      exact ⟨fun h => ⟨h, h ▸ hk⟩, fun h => h.1⟩
    · rw [if_neg hk]
      simp only [Option.some.injEq, RxItem.frame.injEq, true_and, reduceCtorEq, false_iff]
      rintro ⟨rfl, h⟩
      exact hk h
  · next h =>
    simp only [false_iff, reduceCtorEq]
    exact fun hc => h f hc.1 hc.2.1

theorem corrupted_iff (s : State) : s.corrupted = true ↔ s.ctl = .wait ∧ s.rx = some .err := by
  simp [State.corrupted]

theorem expired_iff (e : Slot) (s : State) :
    s.expired e = true ↔ s.ctl = .wait ∧ (s.rtx.get e).pending = true := by
  simp [State.expired]

theorem ackDue_iff (s : State) : s.ackDue = true ↔ s.ctl = .wait ∧ s.ackt.pending = true := by
  simp [State.ackDue]

theorem accepts_iff (f : FrameWord) (s : State) : accepts f s = true ↔ Accepted f s := by
  simp [accepts, Accepted]

/-- Everything the NAK-or-delay decision can do; it never faults (43 R175). -/
theorem nakOrDelay_eq (f : FrameWord) (s : State) :
    nakOrDelay f s =
      .running (if f.seq ≠ s.fe ∧ s.noNak = true then
        { s with
          noNak := false
          out := s.out ++ [.tx (controlFrame .nak 0 s).toWord]
          ackt := AckTimer.idle }
      else { s with ackt := AckTimer.started s.timeouts }) := by
  simp only [nakOrDelay]
  by_cases h : f.seq ≠ s.fe ∧ s.noNak = true
  · rw [if_pos h, if_pos h, sendNak_eq]
  · rw [if_neg h, if_neg h]
    rfl

theorem deliverOne_eq (p : Packet) (s : State) :
    deliverOne p s =
      { s with
        noNak := true
        arrived := s.arrived.set (slot s.fe) false
        fe := s.fe + 1#3
        ackt := AckTimer.started s.timeouts
        out := s.out ++ [.deliver p] } := by
  simp only [deliverOne, inc_eq]
  rfl

/-- What holds before the drain loop and is kept by each delivery and by the fault of an unwritten
slot holds of the state the loop leaves. -/
theorem drain_induct {P : State → Prop}
    (hd : ∀ s p, s.arrived.get (slot s.fe) = true → s.inBuf.read (slot s.fe) = some p → P s →
      P (deliverOne p s))
    (hf : ∀ s, s.arrived.get (slot s.fe) = true → s.inBuf.read (slot s.fe) = none → P s →
      P (s.raiseFault .unwrittenSlot))
    (k : Nat) (s : State) (h : P s) : P (drain k s).state := by
  induction k generalizing s with
  | zero => exact h
  | succ k ih =>
    simp only [drain]
    split
    · next ha =>
      cases hr : s.inBuf.read (slot s.fe) with
      | none =>
        rw [withSlot_none _ _ hr]
        exact hf s ha hr h
      | some p =>
        rw [withSlot_some _ _ hr]
        exact ih _ (hd s p ha hr h)
    · exact h

theorem runLength_clear (arr : Quad Bool) (q : Seq) (k : Nat) (hk : k ≤ 3) :
    runLength k (arr.set (slot q) false) (q + 1#3) = runLength k arr (q + 1#3) := by
  have h : ∀ (b0 b1 b2 b3 : Bool) (q : Seq) (k : Fin 4),
      runLength k.val ((⟨b0, b1, b2, b3⟩ : Quad Bool).set (slot q) false) (q + 1#3) =
        runLength k.val ⟨b0, b1, b2, b3⟩ (q + 1#3) := by decide
  exact h arr.s0 arr.s1 arr.s2 arr.s3 q ⟨k, by omega⟩

theorem runLength_le (k : Nat) (arr : Quad Bool) (q : Seq) : runLength k arr q ≤ k := by
  induction k generalizing q with
  | zero => exact Nat.le_refl _
  | succ k ih =>
    simp only [runLength]
    split
    · exact Nat.succ_le_succ (ih _)
    · exact Nat.zero_le _

/-- The state after the packets of `n` slots from that of `FE` on are delivered (43 R177). -/
def afterRun (n : Nat) (s : State) : State :=
  { s with
    noNak := if 0 < n then true else s.noNak
    arrived := clearRun n s.arrived s.fe
    fe := s.fe + BitVec.ofNat 3 n
    ackt := if 0 < n then AckTimer.started s.timeouts else s.ackt
    out := s.out ++ deliveries n s.inBuf s.fe }

theorem afterRun_zero (s : State) : afterRun 0 s = s := by
  simp [afterRun, clearRun, deliveries]

theorem afterRun_succ {s : State} {p : Packet} (n : Nat)
    (hp : s.inBuf.read (slot s.fe) = some p) :
    afterRun n (deliverOne p s) = afterRun (n + 1) s := by
  rw [deliverOne_eq]
  simp only [afterRun, clearRun, deliveries, hp, Nat.zero_lt_succ, if_true, ite_self]
  congr 1
  · rw [BitVec.add_assoc, Nat.add_comm, BitVec.ofNat_add]
  · simp

/-- The drain loop's effect when every arrived slot holds a packet: it delivers the run of arrived
slots at `FE` and never faults (43 R177). -/
theorem drain_eq (k : Nat) (s : State) (hk : k ≤ 4)
    (hheld : ∀ e : Slot, s.arrived.get e = true → (s.inBuf.read e).isSome = true) :
    drain k s = .running (afterRun (runLength k s.arrived s.fe) s) := by
  induction k generalizing s with
  | zero => rw [runLength, afterRun_zero, drain]
  | succ k ih =>
    by_cases ha : s.arrived.get (slot s.fe) = true
    · obtain ⟨p, hp⟩ := Option.isSome_iff_exists.mp (hheld _ ha)
      have hn : runLength k (deliverOne p s).arrived (deliverOne p s).fe + 1 =
          runLength (k + 1) s.arrived s.fe := by
        rw [deliverOne_eq, runLength_clear _ _ _ (by omega), runLength, if_pos ha]
      rw [drain, if_pos ha, withSlot_some _ _ hp, ih _ (by omega), afterRun_succ _ hp, hn]
      intro e
      rw [deliverOne_eq]
      simp only [Quad.get_set]
      split
      · simp
      · exact hheld e
    · rw [drain, if_neg ha, runLength, if_neg ha, afterRun_zero]

end Sys2Proof.Machine
end

