-- ==== Sys2Proof/Laws/Events.lean ====
section
/-! SUPPORT. What each event's handler can do, said once: if `exec` answers a next state, it is one of
these (43_protocol_engine). -/

namespace Sys2Proof.Machine

@[simp] theorem Taken_writeOut (q : Seq) (e : Slot) (p : Packet) (s : State) :
    Taken q (s.writeOut e p) ↔ Taken q s := Iff.rfl

/-- The handler of NETWORK_LAYER_READY when the slot's timer is free (43 R172). -/
theorem sendPacket_running {p : Packet} {s : State} (h : ¬ Taken s.nfts s) :
    sendPacket p s =
      .running { s with
        outBuf := s.outBuf.write (slot s.nfts) p
        rtx := s.rtx.set (slot s.nfts) (RtxEntry.armedFor s.timeouts s.nfts)
        ackt := AckTimer.idle
        nfts := s.nfts + 1#3
        out := s.out ++ [.tx (dataFrame s.nfts p s).toWord] } := by
  rcases sendData_cases s.nfts (s.writeOut (slot s.nfts) p) with hc | ⟨q, _, ht, _⟩ | ⟨q, hq, _, he⟩
  · simp at hc
  · exact absurd ht h
  · have hp : p = q := by simpa using hq
    subst hp
    simp only [sendPacket, sendFrame]
    rw [he]
    simp only [Flow.andThen_running, inc_eq]
    rfl

/-- The handler of NETWORK_LAYER_READY when the slot's timer is live for another number: the slot-reuse
fault, after the buffer was written and the frame sent (41 R124, 60 R224). -/
theorem sendPacket_ended {p : Packet} {s : State} (h : Taken s.nfts s) :
    sendPacket p s =
      .ended { s with
        outBuf := s.outBuf.write (slot s.nfts) p
        out := s.out ++ [.tx (dataFrame s.nfts p s).toWord]
        ctl := .faulted
        fcause := FaultCause.slotReuse.code } := by
  rcases sendData_cases s.nfts (s.writeOut (slot s.nfts) p) with hc | ⟨q, hq, _, he⟩ | ⟨q, _, ht, _⟩
  · simp at hc
  · have hp : p = q := by simpa using hq
    subst hp
    simp only [sendPacket, sendFrame]
    rw [he]
    rfl
  · exact absurd h ht

theorem exec_nlr_next {s t : State} (h : exec .nlr s = .next t) :
    ∃ p, s.offered = some p ∧ t = (sendPacket p s.takeNl).state := by
  simp only [exec, execNlr] at h
  split at h
  · next p hp => exact ⟨p, hp, by simpa using h.symm⟩
  · cases h

theorem exec_faData_next {s t : State} (h : exec .faData s = .next t) :
    ∃ f u, s.arriving .data = some f ∧ nakOrDelay f s.takeRx = .running u ∧
      ((∃ v, acceptFrame f u = .running v ∧ t = ackProcess f.ack v) ∨
        acceptFrame f u = .ended t) := by
  simp only [exec, execFaData] at h
  split at h
  · next f hf =>
    rw [nakOrDelay_eq] at h
    refine ⟨f, _, hf, nakOrDelay_eq f _, ?_⟩
    simp only [Flow.andThen_running, Flow.outcome_eq, Host.Outcome.next.injEq] at h
    generalize acceptFrame f _ = g at h ⊢
    cases g with
    | running v => exact .inl ⟨v, rfl, h.symm⟩
    | ended v => exact .inr (congrArg Flow.ended h)
  · cases h

theorem exec_faAck_next {s t : State} (h : exec .faAck s = .next t) :
    ∃ f, s.arriving .ack = some f ∧ t = ackProcess f.ack s.takeRx := by
  simp only [exec, execFaAck] at h
  split at h
  · next f hf => exact ⟨f, hf, by simpa using h.symm⟩
  · cases h

theorem exec_faNak_next {s t : State} (h : exec .faNak s = .next t) :
    ∃ f, s.arriving .nak = some f ∧
      ((∃ v, resendRequested f.ack s.takeRx = .running v ∧ t = ackProcess f.ack v) ∨
        resendRequested f.ack s.takeRx = .ended t) := by
  simp only [exec, execFaNak] at h
  split at h
  · next f hf =>
    refine ⟨f, hf, ?_⟩
    simp only [Flow.outcome_eq, Host.Outcome.next.injEq] at h
    generalize resendRequested f.ack _ = g at h ⊢
    cases g with
    | running v => exact .inl ⟨v, rfl, h.symm⟩
    | ended v => exact .inr (congrArg Flow.ended h)
  · cases h

theorem exec_faRsvd_next {s t : State} (h : exec .faRsvd s = .next t) :
    ∃ f, s.arriving .rsvd = some f ∧ t = s.takeRx.raiseAnomaly .rsvdKind := by
  simp only [exec, execFaRsvd] at h
  split at h
  · next f hf => exact ⟨f, hf, by simpa using h.symm⟩
  · cases h

theorem exec_cksum_next {s t : State} (h : exec .cksum s = .next t) :
    s.corrupted = true ∧
      t = if s.noNak = true then
          { s.takeRx with
            noNak := false
            out := s.takeRx.out ++ [.tx (controlFrame .nak 0 s).toWord]
            ackt := AckTimer.idle }
        else s.takeRx := by
  simp only [exec, execCksum] at h
  split at h
  · next hc =>
    refine ⟨hc, ?_⟩
    have ht : t = (nakIfAllowed s.takeRx).state := by simpa using h.symm
    rw [ht, nakIfAllowed]
    by_cases hn : s.noNak = true
    · rw [if_pos hn, if_pos (show s.takeRx.noNak = true from hn), sendNak_eq]
      rfl
    · rw [if_neg hn, if_neg (show ¬ s.takeRx.noNak = true from hn)]
      rfl
  · cases h

theorem exec_timeout_next {q : Seq} {s t : State} (h : exec (.timeout q) s = .next t) :
    s.expired s.sel = true ∧ (s.rtx.get s.sel).tag = q ∧
      t = (sendData q (consumeTimeout s.sel s.begin)).state := by
  simp only [exec, execTimeout] at h
  split at h
  · next hc => exact ⟨hc.1, hc.2, by simpa [sendFrame] using h.symm⟩
  · cases h

theorem exec_ackto_next {s t : State} (h : exec .ackto s = .next t) :
    s.ackDue = true ∧
      t = { s with
        out := [.tx (controlFrame .ack 0 s).toWord]
        ackt := AckTimer.idle } := by
  simp only [exec, execAckto] at h
  split at h
  · next hc =>
    refine ⟨hc, ?_⟩
    rw [sendAck_eq] at h
    simp only [Flow.outcome_eq, Flow.state_running, Host.Outcome.next.injEq] at h
    rw [← h]
    rfl
  · cases h

theorem unrecognizedEvent_next {s t : State} (h : unrecognizedEvent s = .next t) :
    s.ctl = .wait ∧ t = s.begin.raiseAnomaly .unrecognizedEvent := by
  simp only [unrecognizedEvent] at h
  split at h
  · next hc => exact ⟨hc, by simpa using h.symm⟩
  · cases h

end Sys2Proof.Machine
end

