-- ==== Sys2Proof/Laws/PerInstr.lean ====
section
/-! SUPPORT. One lemma per instruction: the instruction has exactly one row in the opcode map, under its
own mnemonic, and its encoding belongs to that row (30_encoding R81, R82). -/

namespace Sys2Proof.Laws

/-- The one row that covers the instruction's encoding is the row with its mnemonic. -/
def MnemonicRow.Statement (i : Instr) : Prop :=
  ∃ r, opcodeRows.filter (fun r => r.covers (encode i)) = [r] ∧ r.mnemonic = i.mnemonic

theorem MnemonicRow.nlr : MnemonicRow.Statement .nlr := ⟨_, rfl, rfl⟩

theorem MnemonicRow.faData : MnemonicRow.Statement .faData := ⟨_, rfl, rfl⟩

theorem MnemonicRow.faAck : MnemonicRow.Statement .faAck := ⟨_, rfl, rfl⟩

theorem MnemonicRow.faNak : MnemonicRow.Statement .faNak := ⟨_, rfl, rfl⟩

theorem MnemonicRow.faRsvd : MnemonicRow.Statement .faRsvd := ⟨_, rfl, rfl⟩

theorem MnemonicRow.cksum : MnemonicRow.Statement .cksum := ⟨_, rfl, rfl⟩

theorem MnemonicRow.timeout (q : Seq) : MnemonicRow.Statement (.timeout q) := by
  have hrow : ∀ q : Seq,
      opcodeRows.filter (fun r => r.covers (encode (.timeout q))) = [⟨"TIMEOUT", 0x03, 0x07⟩] := by
    decide
  exact ⟨_, hrow q, rfl⟩

theorem MnemonicRow.ackto : MnemonicRow.Statement .ackto := ⟨_, rfl, rfl⟩

theorem MnemonicRow.rsvd5 : MnemonicRow.Statement .rsvd5 := ⟨_, rfl, rfl⟩

theorem MnemonicRow.rsvd6 : MnemonicRow.Statement .rsvd6 := ⟨_, rfl, rfl⟩

theorem MnemonicRow.rsvd7 : MnemonicRow.Statement .rsvd7 := ⟨_, rfl, rfl⟩

end Sys2Proof.Laws
end

