-- ==== Sys2Proof/Laws/Step.lean ====
section
/-! SUPPORT. What a move of an agent and a step of the machine can do, said once (00_scope R13). -/

namespace Sys2Proof.Machine

/-- The NAK resend is nothing, or one DATA transmission (43 R180). -/
theorem resendRequested_eq (a : Seq) (s : State) :
    resendRequested a s =
      if between s.ae (a + 1#3) s.nfts = true then sendData (a + 1#3) s else .running s := by
  simp only [resendRequested, inc_eq, sendFrame]

/-- Acceptance and drain when every arrived slot holds a packet: no fault, and the run of arrived slots
at `FE` is delivered (43 R176, R177). -/
theorem acceptFrame_eq (f : FrameWord) (s : State)
    (hheld : ∀ e : Slot, s.arrived.get e = true → (s.inBuf.read e).isSome = true) :
    acceptFrame f s =
      if accepts f s = true then
        .running (afterRun (runLength Config.nrBufs (s.arrived.set (slot f.seq) true) s.fe)
          (storeArrived f s))
      else .running s := by
  simp only [acceptFrame]
  by_cases h : accepts f s = true
  · rw [if_pos h, if_pos h]
    refine drain_eq _ _ (Nat.le_refl _) fun e he => ?_
    simp only [storeArrived, State.writeIn_inBuf, State.writeIn_arrived, State.setArrived_inBuf,
      State.setArrived_arrived, Quad.get_set, Memory.read_write] at he ⊢
    by_cases hs : e = slot f.seq
    · simp [hs]
    · rw [if_neg hs] at he ⊢
      exact hheld e he
  · rw [if_neg h, if_neg h]

/-- Taking an event is `exec` of the instruction the arbiter's word decodes to (43 R170). -/
theorem takeEvent_next {src : Source} {s t : State} (h : takeEvent src s = .next t) :
    ∃ ev e, arbitrate src s = some (ev, e) ∧ exec (decode ev) (s.setSel e) = .next t := by
  simp only [takeEvent] at h
  split at h
  · next ev e ha => exact ⟨ev, e, ha, h⟩
  · cases h

theorem offerPacket_next {p : Packet} {s t : State} (h : offerPacket p s = .next t) :
    s.nl = none ∧ t = s.begin.setNl (some p) := by
  simp only [offerPacket] at h
  split at h
  · next hn => exact ⟨hn, by simpa using h.symm⟩
  · cases h

theorem presentItem_next {x : RxItem} {s t : State} (h : presentItem x s = .next t) :
    s.rx = none ∧ t = s.begin.setRx (some x) := by
  simp only [presentItem] at h
  split at h
  · next hn => exact ⟨hn, by simpa using h.symm⟩
  · cases h

/-- Everything a move can do. -/
theorem makeMove_cases {m : Move} {s t : State} (h : makeMove m s = .next t) :
    (∃ i e, exec i (s.setSel e) = .next t) ∨ t = s.tick ∨ t = s.applyReset ∨
    (∃ p, m = .offer p ∧ s.nl = none ∧ t = s.begin.setNl (some p)) ∨
    (∃ x, m = .present x ∧ s.rx = none ∧ t = s.begin.setRx (some x)) := by
  cases m with
  | take src =>
    obtain ⟨ev, e, _, hx⟩ := takeEvent_next h
    exact .inl ⟨_, _, hx⟩
  | drive ev e => exact .inl ⟨_, _, h⟩
  | tick => exact .inr (.inl (Host.Outcome.next.inj h).symm)
  | rst => exact .inr (.inr (.inl (Host.Outcome.next.inj h).symm))
  | offer p => exact .inr (.inr (.inr (.inl ⟨p, rfl, offerPacket_next h⟩)))
  | present x => exact .inr (.inr (.inr (.inr ⟨x, rfl, presentItem_next h⟩)))

/-- Everything a step can do: the agenda's move, a free move that is enabled, or an idle turn. -/
theorem step_cases {s t : State} (h : step s = .next t) :
    (∃ m rest, s.agenda = m :: rest ∧ makeMove m (s.setAgenda rest) = .next t) ∨
    (s.agenda = [] ∧ ∃ m, enabled m (s.setTurn (s.turn + 1)) = true ∧
      makeMove m (s.setTurn (s.turn + 1)) = .next t) ∨
    (s.agenda = [] ∧ t = (s.setTurn (s.turn + 1)).begin) := by
  simp only [step, agentStep] at h
  split at h
  · next m rest ha => exact .inl ⟨m, rest, ha, h⟩
  · next ha =>
    simp only [freeStep] at h
    split at h
    · next he => exact .inr (.inl ⟨ha, _, he, h⟩)
    · exact .inr (.inr ⟨ha, by simpa using h.symm⟩)

end Sys2Proof.Machine
end

