-- ==== Sys2Proof/Laws/Timers.lean ====
section
/-! SUPPORT. The timeouts, the width of the counters that hold them, and one tick of a sound timer
(00_scope R8, R10; 41 R127, R133). -/

namespace Sys2Proof.Machine

/-- The retransmit timeout fits the counters. -/
theorem rtx_lt_width (t : Timeouts) : t.rtx < 2 ^ timerWidth t :=
  Nat.lt_of_le_of_lt (Nat.le_max_left _ _) Nat.lt_log2_self

/-- The acknowledgement timeout fits the counters. -/
theorem ack_lt_width (t : Timeouts) : t.ack < 2 ^ timerWidth t :=
  Nat.lt_of_le_of_lt (Nat.le_max_right _ _) Nat.lt_log2_self

/-- A count in the counter's range goes down by one. -/
theorem countDown_eq {w n : Nat} (h1 : 1 ≤ n) (h2 : n < 2 ^ w) : countDown w n = n - 1 := by
  rw [countDown, show n + (2 ^ w - 1) = n - 1 + 2 ^ w by omega, Nat.add_mod_right]
  exact Nat.mod_eq_of_lt (by omega)

/-- A counter never leaves its width. -/
theorem countDown_lt (w n : Nat) : countDown w n < 2 ^ w := Nat.mod_lt _ (Nat.two_pow_pos w)

/-- What soundness of an entry says. -/
theorem RtxEntry.ok_iff (t : Timeouts) (e : RtxEntry) :
    e.ok t = true ↔ ¬ (e.armed = true ∧ e.pending = true) ∧
      (e.armed = true → 1 ≤ e.count ∧ e.count ≤ t.rtx) ∧ e.count < 2 ^ timerWidth t := by
  cases h : e.armed <;> simp [RtxEntry.ok, h]
  tauto

/-- What soundness of the acknowledgement timer says. -/
theorem AckTimer.ok_iff (t : Timeouts) (a : AckTimer) :
    a.ok t = true ↔ ¬ (a.armed = true ∧ a.pending = true) ∧
      (a.armed = true → 1 ≤ a.count ∧ a.count ≤ t.ack) ∧ a.count < 2 ^ timerWidth t := by
  cases h : a.armed <;> simp [AckTimer.ok, h]
  tauto

/-- A freshly armed entry is sound. -/
theorem RtxEntry.armedFor_ok (t : Timeouts) (q : Seq) : (RtxEntry.armedFor t q).ok t = true :=
  (RtxEntry.ok_iff _ _).mpr ⟨by simp [armedFor], fun _ => ⟨t.rtx_pos, Nat.le_refl _⟩, rtx_lt_width t⟩

/-- A freshly started acknowledgement timer is sound. -/
theorem AckTimer.started_ok (t : Timeouts) : (AckTimer.started t).ok t = true :=
  (AckTimer.ok_iff _ _).mpr ⟨by simp [started], fun _ => ⟨t.ack_pos, Nat.le_refl _⟩, ack_lt_width t⟩

/-- An entry that is not armed does not count. -/
theorem RtxEntry.tick_idle {w : Nat} {e : RtxEntry} (h : e.armed = false) : e.tick w = e := by
  simp [RtxEntry.tick, h]

/-- A tick of an armed entry whose count is in range. -/
theorem RtxEntry.tick_armed {w : Nat} {e : RtxEntry} (h : e.armed = true) (h1 : 1 ≤ e.count)
    (h2 : e.count < 2 ^ w) :
    e.tick w = if e.count - 1 = 0 then { e with armed := false, count := 0, pending := true }
      else { e with count := e.count - 1 } := by
  simp only [RtxEntry.tick, countDown_eq h1 h2]
  rw [if_pos h]

/-- An acknowledgement timer that is not armed does not count. -/
theorem AckTimer.tick_idle {w : Nat} {a : AckTimer} (h : a.armed = false) : a.tick w = a := by
  simp [AckTimer.tick, h]

/-- A tick of an armed acknowledgement timer whose count is in range. -/
theorem AckTimer.tick_armed {w : Nat} {a : AckTimer} (h : a.armed = true) (h1 : 1 ≤ a.count)
    (h2 : a.count < 2 ^ w) :
    a.tick w = if a.count - 1 = 0 then { armed := false, count := 0, pending := true }
      else { a with count := a.count - 1 } := by
  simp only [AckTimer.tick, countDown_eq h1 h2]
  rw [if_pos h]

end Sys2Proof.Machine
end

