-- ==== Sys2Proof/Tests/Slice0.lean ====
section
/-! SUPPORT. Small checks of the model, their expected values from 95_test_vectors or worked out from
the encodings, and a concrete state for the hypotheses of each statement. -/

namespace Sys2Proof.Tests

open Sys2Proof.Machine

/-! ### Well-formedness -/

theorem test_every_operand_is_encodable :
    ∀ q : Seq, (Instr.timeout q).wellFormed = true ∧ Instr.nlr.wellFormed = true := by decide

theorem test_wellFormed_frames :
    Frame.wellFormed ⟨.data, 5, 4, ⟨9⟩, true⟩ = true ∧ Frame.wellFormed ⟨.ack, 0, 4, ⟨0⟩, false⟩ = true ∧
    Frame.wellFormed ⟨.nak, 0, 7, ⟨0⟩, false⟩ = true := by decide

/-- 30 R79: a DATA frame without a payload. -/
theorem test_data_without_payload_refused : Frame.wellFormed ⟨.data, 5, 4, ⟨9⟩, false⟩ = false := by decide

/-- 30 R79: an ACK frame with `HASP = 1`. -/
theorem test_ack_with_hasp_refused : Frame.wellFormed ⟨.ack, 0, 4, ⟨0⟩, true⟩ = false := by decide

/-- 30 R79: a NAK frame with a payload. -/
theorem test_nak_with_payload_refused : Frame.wellFormed ⟨.nak, 0, 4, ⟨9⟩, false⟩ = false := by decide

/-- 42 R153: an ACK frame with `SEQ = 7` (header 0x3D of 95 section 3.2). -/
theorem test_ack_with_seq_refused : Frame.wellFormed ⟨.ack, 7, 1, ⟨0⟩, false⟩ = false := by decide

/-- 30 R77: a frame of the reserved kind. -/
theorem test_reserved_kind_refused : Frame.wellFormed ⟨.rsvd, 0, 3, ⟨0⟩, false⟩ = false := by decide

/-- 30 R73, R75, 60 R227: the arbiter forms 0x19 and 0xE3; not a reserved `ETYPE` (0x05), nor an NLR with
`FKIND` 1 (0x08), nor an NLR with `ARG` 1 (0x20), nor a FRAME_ARRIVAL with `ARG` 1 (0x21). -/
theorem test_arbiter_words :
    arbiterFormed 0x19 = true ∧ arbiterFormed 0xE3 = true ∧ arbiterFormed 0x05 = false ∧
    arbiterFormed 0x08 = false ∧ arbiterFormed 0x20 = false ∧ arbiterFormed 0x21 = false := by decide

/-! ### Decoding: words written from 30 R71, `ARG` `FKIND` `ETYPE` from the left -/

theorem test_decode_nlr : decode (0b000#3 ++ 0b00#2 ++ 0b000#3) = .nlr := by decide
theorem test_decode_faData : decode (0b000#3 ++ 0b00#2 ++ 0b001#3) = .faData := by decide
theorem test_decode_faAck : decode (0b000#3 ++ 0b01#2 ++ 0b001#3) = .faAck := by decide
theorem test_decode_faNak : decode (0b000#3 ++ 0b10#2 ++ 0b001#3) = .faNak := by decide
theorem test_decode_faRsvd : decode (0b000#3 ++ 0b11#2 ++ 0b001#3) = .faRsvd := by decide
theorem test_decode_cksum : decode (0b000#3 ++ 0b00#2 ++ 0b010#3) = .cksum := by decide
theorem test_decode_timeout : decode (0b110#3 ++ 0b00#2 ++ 0b011#3) = .timeout 6 := by decide
theorem test_decode_ackto : decode (0b000#3 ++ 0b00#2 ++ 0b100#3) = .ackto := by decide
theorem test_decode_rsvd5 : decode (0b000#3 ++ 0b00#2 ++ 0b101#3) = .rsvd5 := by decide
theorem test_decode_rsvd6 : decode (0b000#3 ++ 0b00#2 ++ 0b110#3) = .rsvd6 := by decide
theorem test_decode_rsvd7 : decode (0b000#3 ++ 0b00#2 ++ 0b111#3) = .rsvd7 := by decide

/-- 95 section 3.1: ignored bits do not matter (0x7B is `TO 3`, 0xD9 is FA.RSVD, 0xCE is RSVD6). -/
theorem test_decode_ignored_bits :
    decode 0x7B = .timeout 3 ∧ decode 0xD9 = .faRsvd ∧ decode 0xCE = .rsvd6 := by decide

theorem test_decode_no_bytes : decodeBytes [] = .error .noDispatchWord := rfl

theorem test_decodeTableWord :
    decodeTableWord 8 0x43 = some (.timeout 2) ∧ decodeTableWord 0 0x43 = none ∧
    decodeTableWord 16 0x0043 = none := by decide

/-- Right after reset, each row's match word, placed where the next step takes it, runs. -/
theorem test_withFetchWord_runs_every_row :
    (opcodeRows.all fun r =>
      match step (State.reset.withFetchWord 8 r.pattern.toNat) with
      | .next t => decide (t.agenda = [])
      | _ => false) = true := by decide

/-- 95 section 3.2: 0x94 is DATA with `SEQ = 5`, `ACK = 4`; 0xE2 is NAK with `SEQ = 0`, `ACK = 7`. -/
theorem test_headers :
    (⟨0x94, ⟨1⟩, true⟩ : FrameWord).toFrame = ⟨.data, 5, 4, ⟨1⟩, true⟩ ∧
    (Frame.toWord ⟨.nak, 0, 7, ⟨0⟩, false⟩).hdr = 0xE2 := by decide

/-! ### One step from a small state: the vectors of 95 section 4 -/

/-- A frame at the receive port. -/
def rxFrame (k : Kind) (seq ack : Seq) (p : Nat) : Option RxItem :=
  some (.frame (Frame.toWord ⟨k, seq, ack, ⟨p⟩, decide (k = .data)⟩))

/-- The output that transmits a frame. -/
def sent (k : Kind) (seq ack : Seq) (p : Nat) : Output :=
  .tx (Frame.toWord ⟨k, seq, ack, ⟨p⟩, decide (k = .data)⟩)

/-- An armed retransmit timer. -/
def running (q : Seq) : RtxEntry := { armed := true, tag := q, count := 300, pending := false }

/-- An expired retransmit timer. -/
def expired (q : Seq) : RtxEntry := { armed := false, tag := q, count := 0, pending := true }

/-- Does the outcome go on, with these outputs and this status word? -/
def shows (o : Host.Outcome State Fault Refusal) (out : List Output) (status : BitVec 32) : Bool :=
  match o with
  | .next t => decide (t.out = out) && decide (t.statusO = status)
  | _ => false

/-- Reset, with this move next. -/
def at_ (m : Move) : State := { State.reset with agenda := [m] }

/-- After `nlr P0` with packet 10: one frame outstanding. -/
def oneOut (m : Move) : State :=
  { at_ m with nfts := 1, outBuf := [(0, ⟨10⟩)], rtx := (Quad.fill RtxEntry.idle).set 0 (running 0) }

/-- After `nlr P0` to `nlr P2` with packets 10, 11, 12: three frames outstanding. -/
def threeOut (m : Move) : State :=
  { at_ m with
    nfts := 3
    outBuf := [(0, ⟨10⟩), (1, ⟨11⟩), (2, ⟨12⟩)]
    rtx := ⟨running 0, running 1, running 2, RtxEntry.idle⟩ }

/-- After `fa DATA 0 7 P0`: one packet delivered. -/
def oneIn (m : Move) : State :=
  { at_ m with
    fe := 1
    inBuf := [(0, ⟨20⟩)]
    ackt := { armed := true, count := 150, pending := false } }

/-- Vector N1. -/
theorem test_nlr_N1 : shows (step { at_ (.take .upper) with nl := some ⟨10⟩ })
    [.takeNl, sent .data 0 7 10] 0x00461808 := by decide

/-- Vector N5: the DATA frame carries `ack = 0` and cancels the acknowledgement timer. -/
theorem test_nlr_N5 : shows (step { oneIn (.take .upper) with nl := some ⟨10⟩ })
    [.takeNl, sent .data 0 0 10] 0x00461A48 := by decide

/-- Vector D2: an early frame is buffered and draws a NAK. -/
theorem test_faData_D2 : shows (step { at_ (.take .receive) with rx := rxFrame .data 1 7 21 })
    [.takeRx, sent .nak 0 7 0] 0x00084800 := by decide

/-- Vector D4: the missing frame releases the two buffered behind it. -/
theorem test_faData_D4 : shows (step { at_ (.take .receive) with
    noNak := false
    arrived := ⟨false, true, true, false⟩
    inBuf := [(1, ⟨21⟩), (2, ⟨22⟩)]
    rx := rxFrame .data 0 7 20 })
    [.takeRx, .deliver ⟨20⟩, .deliver ⟨21⟩, .deliver ⟨22⟩] 0x00181EC0 := by decide

/-- Vector A6: `AE = 6`, `NFTS = 2`, acknowledged up to 0. -/
theorem test_faAck_A6 : shows (step { at_ (.take .receive) with
    ae := 6
    nfts := 2
    rtx := ⟨running 0, running 1, running 6, running 7⟩
    rx := rxFrame .ack 0 0 0 })
    [.takeRx, .grant 3] 0x00861811 := by decide

/-- Vector A7: `SEQ` of an ACK is not read. -/
theorem test_faAck_A7 : shows (step { oneOut (.take .receive) with rx := rxFrame .ack 5 0 0 })
    [.takeRx, .grant 1] 0x00081809 := by decide

/-- Vector K1: the requested frame is resent before the acknowledgement is processed. -/
theorem test_faNak_K1 : shows (step { threeOut (.take .receive) with rx := rxFrame .nak 0 0 0 })
    [.takeRx, sent .data 1 7 11, .grant 1] 0x01841819 := by decide

/-- Vector K3: a request for a frame not yet sent. -/
theorem test_faNak_K3 : shows (step { oneOut (.take .receive) with rx := rxFrame .nak 0 1 0 })
    [.takeRx] 0x00461808 := by decide

/-- Vector F2: the acknowledgement of a reserved frame is not processed. -/
theorem test_faRsvd_F2 : shows (step { oneOut (.take .receive) with rx := rxFrame .rsvd 0 0 0 })
    [.takeRx, .anomaly 2] 0x40461808 := by decide

/-- Vector C4. -/
theorem test_cksum_C4 : shows (step { oneIn (.take .receive) with rx := some .err })
    [.takeRx, sent .nak 0 0 0] 0x00080A40 := by decide

/-- Vector C2: no second NAK. -/
theorem test_cksum_C2 : shows (step { at_ (.take .receive) with noNak := false, rx := some .err })
    [.takeRx] 0x00080800 := by decide

/-- Vector T3: the timer of slot 3 carries sequence number 7. -/
theorem test_timeout_T3 : shows (step { at_ (.take (.retransmit 3)) with
    ae := 7
    outBuf := [(3, ⟨17⟩)]
    rtx := (Quad.fill RtxEntry.idle).set 3 (expired 7) })
    [sent .data 7 7 17] 0x02061807 := by decide

/-- Vector T4: one tick too early. -/
theorem test_timeout_T4 : step (oneOut (.take (.retransmit 0))) = .refused .notEligible := rfl

/-- Vector W4: `FE = 0` gives `ack = 7`. -/
theorem test_ackto_W4 : shows (step { at_ (.take .ackDelay) with
    ackt := { armed := false, count := 0, pending := true } })
    [sent .ack 0 7 0] 0x00081800 := by decide

/-- Vector U1. -/
theorem test_rsvd5_U1 : shows (step (at_ (.drive 0x05 0))) [.anomaly 1] 0x40081800 := by decide

/-- Vector U2. -/
theorem test_rsvd6_U2 : shows (step (at_ (.drive 0x06 0))) [.anomaly 1] 0x40081800 := by decide

/-- Vector U4. -/
theorem test_rsvd7_U4 : shows (step (oneOut (.drive 0xFF 0))) [.anomaly 1] 0x40461808 := by decide

/-- Vector M2: the last tick of a retransmit timer. -/
theorem test_tick_M2 : shows (step { oneOut .tick with
    rtx := (Quad.fill RtxEntry.idle).set 0 { armed := true, tag := 0, count := 1, pending := false } })
    [] 0x04061808 := by decide

/-- 00 R8, R10: a block built with other timeouts arms its timers with them, its counters as wide as needed. -/
theorem test_timeouts_are_parameters :
    shows (step { at_ (.take .upper) with timeouts := { rtx := 1, ack := 7 }, nl := some ⟨10⟩ })
      [.takeNl, sent .data 0 7 10] 0x00461808 = true ∧
    (armRetransmit 5 (State.resetWith { rtx := 1, ack := 7 })).state.rtx.s1.count = 1 ∧
    (armAckDelay (State.resetWith { rtx := 1, ack := 7 })).ackt.count = 7 ∧
    timerWidth { rtx := 1, ack := 7 } = 3 ∧ timerWidth { rtx := 8, ack := 7 } = 4 ∧
    timerWidth Config.timeouts = 9 := by decide

/-- Vector X1: the slot-reuse fault. -/
theorem test_fault_X1 : shows (step { at_ (.take .upper) with
    nl := some ⟨10⟩
    rtx := (Quad.fill RtxEntry.idle).set 0 (running 4) })
    [.takeNl, sent .data 0 7 10] 0x80481800 := by decide

/-- Vector X2: the unwritten-slot fault. -/
theorem test_fault_X2 : shows (step { at_ (.take .receive) with
    arrived := ⟨false, true, false, false⟩
    rx := rxFrame .data 0 7 20 })
    [.takeRx, .deliver ⟨20⟩] 0x80185A40 := by decide

/-- Vector Z3: reset leaves `FAULTED`. -/
theorem test_reset_Z3 : shows (step { at_ .rst with ctl := .faulted, fcause := 1 }) [.grant 4]
    0x00081800 := by decide

/-! ### Hypotheses that something meets: one witness per statement, and per clause -/

theorem witness_IncrementIsModularSuccessor : (6 : Seq).toNat < 7 ∧ ¬ (7 : Seq).toNat < 7 := by decide

theorem witness_BetweenCountsDistances :
    between 6 0 2 = true ∧ between (inc 6) 0 2 = true ∧ between 6 6 2 = true ∧
    between (inc 6) 6 2 = false := by decide

theorem witness_SlotIsTheLowTwoBits : slot (7 + BitVec.ofNat 3 3) = slot (7 + BitVec.ofNat 3 (3 : Slot).val) ∧
    slot (7 + BitVec.ofNat 3 0) ≠ slot (7 + BitVec.ofNat 3 3) := by decide

/-- The second clause: 0xE3 has its ignored fields 0, 0xFF and 0x20 have not. -/
theorem witness_DecodeInvertsEncode : (Instr.timeout 7).wellFormed = true ∧
    encode (decode 0xE3) = 0xE3 ∧ encode (decode 0xFF) ≠ 0xFF ∧ encode (decode 0x20) ≠ 0x20 := by decide

theorem witness_ArbiterFormsTheEventsWord :
    arbitrate .upper { at_ .tick with nl := some ⟨1⟩ } = some (0x00, 0) ∧
    arbitrate .receive { at_ .tick with rx := rxFrame .rsvd 0 7 0 } = some (0x19, 0) ∧
    arbitrate .receive { at_ .tick with rx := some .err } = some (0x02, 0) ∧
    arbitrate (.retransmit 3) { at_ .tick with rtx := (Quad.fill RtxEntry.idle).set 3 (expired 7) }
      = some (0xE3, 3) ∧
    arbitrate .ackDelay { at_ .tick with ackt := { armed := false, count := 0, pending := true } }
      = some (0x04, 0) := by decide

theorem witness_StepRunsTheDecodedInstruction :
    (at_ (.drive 0xFF 3)).agenda = .drive 0xFF 3 :: [] ∧
    (at_ (.take .receive)).agenda = .take .receive :: [] ∧
    arbitrate .receive { at_ (.take .receive) with rx := some .err } = some (0x02, 0) := by decide

theorem witness_EligibleExactlyWhenTheSourceHolds :
    (at_ (.take .upper)).agenda = .take .upper :: [] ∧ eligible .upper (at_ (.take .upper)) = false := by
  decide

/-- Each instruction with a state in which it is ready; used for every statement about a next state. -/
def readyStates : List (Instr × State) :=
  [(.nlr, { at_ .tick with nl := some ⟨10⟩ }),
   (.faData, { at_ .tick with rx := rxFrame .data 0 7 20 }),
   (.faAck, { oneOut .tick with rx := rxFrame .ack 0 0 0 }),
   (.faNak, { oneOut .tick with rx := rxFrame .nak 0 7 0 }),
   (.faRsvd, { at_ .tick with rx := rxFrame .rsvd 0 7 0 }),
   (.cksum, { at_ .tick with rx := some .err }),
   (.timeout 0, { oneOut .tick with rtx := (Quad.fill RtxEntry.idle).set 0 (expired 0) }),
   (.ackto, { oneIn .tick with ackt := { armed := false, count := 0, pending := true } }),
   (.rsvd5, at_ .tick), (.rsvd6, at_ .tick), (.rsvd7, at_ .tick)]

/-- Does `exec` answer a next state that waits, the window invariant holding before? -/
def completes (x : Instr × State) : Bool :=
  match exec x.1 x.2 with
  | .next t => decide (t.ctl = .wait) && decide (x.2.nout ≤ Config.nrBufs)
  | _ => false

/-- For EventsWriteOnlyTheirState, BufferFrames, HeldPacketsAreNotOverwritten, OutputBoundsAndOrder,
CreditIsConserved, DeliveriesAdvanceTheReceiver, NakSuppression. -/
theorem witness_every_handler_completes : readyStates.all completes = true := by decide

theorem witness_HandlersRunExactlyWhenReady :
    ready (.timeout 7) { at_ .tick with sel := 3, rtx := (Quad.fill RtxEntry.idle).set 3 (expired 7) } ∧
    ready .nlr { at_ .tick with nfts := 3, nl := some ⟨1⟩ } ∧
    ¬ ready .nlr { at_ .tick with nfts := 4, nl := some ⟨1⟩ } ∧
    ¬ ready (.timeout 3) { at_ .tick with sel := 3, rtx := (Quad.fill RtxEntry.idle).set 3 (expired 7) } := by
  refine ⟨?_, ?_, ?_, ?_⟩ <;> simp only [ready] <;> decide

theorem witness_OnlyResetLeavesFaulted :
    ({ at_ .tick with ctl := .faulted, fcause := 1 } : State).ctl = .faulted ∧
    (∃ t, makeMove .tick { at_ .tick with ctl := .faulted, fcause := 1 } = .next t ∧ t.ctl = .faulted) ∧
    ∃ t, makeMove .rst { at_ .tick with ctl := .faulted, fcause := 1 } = .next t ∧ t.ctl = .wait :=
  ⟨rfl, ⟨_, rfl, rfl⟩, ⟨_, rfl, rfl⟩⟩

theorem witness_FreeStepsNeverStop : State.reset.agenda = [] := rfl

theorem witness_EnvironmentMovesTouchOnlyTheirPorts : (at_ .tick).agenda = .tick :: [] := rfl

theorem witness_ResetRestoresEverythingButThePorts : (at_ .rst).agenda = .rst :: [] := rfl

theorem witness_CancelRetransmitIsKeyedByNumber :
    ((oneOut .tick).rtx.get (slot 0)).tag = 0 ∧ ((oneOut .tick).rtx.get (slot 4)).tag ≠ 4 := by decide

/-- At the boundary: just before the last tick and at it, with the default timeouts; and a block built with
`T_RTX = T_ACK = 1`, whose counters have one bit. -/
theorem witness_RetransmitTimerExpiresOnTime :
    ((oneOut .tick).rtx.get 0).armed = true ∧ ((oneOut .tick).rtx.get 0).pending = false ∧
    1 ≤ ((oneOut .tick).rtx.get 0).count ∧
    ((oneOut .tick).rtx.get 0).count < 2 ^ timerWidth (oneOut .tick).timeouts ∧
    299 < ((oneOut .tick).rtx.get 0).count ∧ ¬ 300 < ((oneOut .tick).rtx.get 0).count ∧
    (RtxEntry.armedFor { rtx := 1, ack := 1 } 0).count < 2 ^ timerWidth { rtx := 1, ack := 1 } := by
  decide

theorem witness_AckTimerExpiresOnTime :
    (oneIn .tick).ackt.armed = true ∧ (oneIn .tick).ackt.pending = false ∧
    1 ≤ (oneIn .tick).ackt.count ∧ (oneIn .tick).ackt.count < 2 ^ timerWidth (oneIn .tick).timeouts ∧
    149 < (oneIn .tick).ackt.count ∧ ¬ 150 < (oneIn .tick).ackt.count := by decide

/-- An armed entry in range that stays armed, and one on its last tick. -/
theorem witness_TickCountsEveryTimerDown :
    ((oneOut .tick).rtx.get 0).armed = true ∧ ((oneOut .tick).rtx.get 3).armed = false ∧
    1 ≤ ((oneOut .tick).rtx.get 0).count ∧
    ((oneOut .tick).rtx.get 0).count < 2 ^ timerWidth (oneOut .tick).timeouts ∧
    ((RtxEntry.armedFor { rtx := 1, ack := 1 } 0).tick 1).pending = true := by decide

theorem witness_UnacknowledgedFrameIsDueAfterTimeout :
    ∃ t, exec .nlr { at_ .tick with nl := some ⟨10⟩ } = .next t ∧ t.ctl = .wait := ⟨_, rfl, rfl⟩

/-- A slot with a packet and a free timer, one with a packet and a timer of another number, one without
a packet. -/
theorem witness_SendFrameEffects :
    (oneOut .tick).outBuf.read (slot 0) = some ⟨10⟩ ∧ (oneOut .tick).outBuf.read (slot 4) = some ⟨10⟩ ∧
    ((oneOut .tick).rtx.get (slot 4)).live = true ∧ ((oneOut .tick).rtx.get (slot 4)).tag ≠ 4 ∧
    (oneOut .tick).outBuf.read (slot 7) = none := by decide

/-- With the last unit of credit. -/
theorem witness_NlrSendsTheOfferedPacket :
    let s := { threeOut .tick with nl := some ⟨13⟩ }
    s.ctl = .wait ∧ s.nl = some ⟨13⟩ ∧ 0 < s.credit ∧ s.credit = 1 ∧
    ((s.rtx.get (slot s.nfts)).live = true → (s.rtx.get (slot s.nfts)).tag = s.nfts) := by decide

theorem witness_NlrSlotReuseFault :
    let s := { at_ .tick with nl := some ⟨10⟩, rtx := (Quad.fill RtxEntry.idle).set 0 (running 4) }
    s.ctl = .wait ∧ s.nl = some ⟨10⟩ ∧ s.nout < Config.nrBufs ∧
    (s.rtx.get (slot s.nfts)).live = true ∧ (s.rtx.get (slot s.nfts)).tag ≠ s.nfts := by decide

/-- Accepted, at the upper end of the window (`FE + 3`), a NAK sent; and accepted at its lower end, with
three packets delivered. -/
theorem witness_DataFrameIsAcceptedAndDrained :
    let f := Frame.toWord ⟨.data, 3, 7, ⟨23⟩, true⟩
    let g := Frame.toWord ⟨.data, 0, 7, ⟨20⟩, true⟩
    let s := { at_ .tick with rx := some (.frame f) }
    let u := { at_ .tick with
      arrived := ⟨false, true, true, false⟩
      inBuf := [(1, ⟨21⟩), (2, ⟨22⟩)]
      rx := some (.frame g) }
    (s.ctl = .wait ∧ f.kind = .data ∧ (∀ e : Slot, s.arrived.get e = true → (s.inBuf.read e).isSome = true) ∧
      (true = true ↔ f.seq ≠ s.fe ∧ s.noNak = true) ∧ Accepted f s ∧
      0 = runLength 4 (s.arrived.set (slot f.seq) true) s.fe) ∧
    (u.ctl = .wait ∧ g.kind = .data ∧ (∀ e : Slot, u.arrived.get e = true → (u.inBuf.read e).isSome = true) ∧
      (false = true ↔ g.seq ≠ u.fe ∧ u.noNak = true) ∧ Accepted g u ∧
      3 = runLength 4 (u.arrived.set (slot g.seq) true) u.fe) := by
  simp only [Accepted]
  decide

/-- Just beyond the window (`FE + 4`), and a second copy of a buffered frame. -/
theorem witness_UnacceptedDataFrameIsDiscarded :
    let f := Frame.toWord ⟨.data, 4, 7, ⟨24⟩, true⟩
    let g := Frame.toWord ⟨.data, 2, 7, ⟨22⟩, true⟩
    let s := { at_ .tick with rx := some (.frame f) }
    let u := { at_ .tick with
      arrived := ⟨false, false, true, false⟩
      inBuf := [(2, ⟨22⟩)]
      rx := some (.frame g) }
    (s.ctl = .wait ∧ f.kind = .data ∧ ¬ Accepted f s) ∧
    (u.ctl = .wait ∧ g.kind = .data ∧ ¬ Accepted g u) := by
  simp only [Accepted]
  decide

theorem witness_DrainOfUnwrittenSlotFaults :
    let f := Frame.toWord ⟨.data, 0, 7, ⟨20⟩, true⟩
    let s := { at_ .tick with arrived := ⟨false, true, false, false⟩, rx := some (.frame f) }
    s.ctl = .wait ∧ f.kind = .data ∧ f.seq = s.fe ∧ s.arrived.get (slot s.fe) = false ∧
    s.arrived.get (slot (inc s.fe)) = true ∧ s.inBuf.read (slot (inc s.fe)) = none := by decide

theorem witness_AckFrameAcknowledges :
    let f := Frame.toWord ⟨.ack, 0, 2, ⟨0⟩, false⟩
    let s := { threeOut .tick with rx := some (.frame f) }
    s.ctl = .wait ∧ f.kind = .ack ∧ between s.ae f.ack s.nfts = true := by decide

/-- The newest outstanding frame requested, with its timer running; and one not yet sent. -/
theorem witness_NakFrameResendsTheRequestedFrame :
    let f := Frame.toWord ⟨.nak, 0, 1, ⟨0⟩, false⟩
    let g := Frame.toWord ⟨.nak, 0, 2, ⟨0⟩, false⟩
    let s := { threeOut .tick with rx := some (.frame f) }
    s.ctl = .wait ∧ f.kind = .nak ∧ between s.ae (inc f.ack) s.nfts = true ∧
    s.outBuf.read (slot (inc f.ack)) = some ⟨12⟩ ∧
    ((s.rtx.get (slot (inc f.ack))).live = true → (s.rtx.get (slot (inc f.ack))).tag = inc f.ack) ∧
    g.kind = .nak ∧ between s.ae (inc g.ack) s.nfts = false := by decide

theorem witness_ReservedKindIsOnlyReported :
    (⟨0x63, ⟨0⟩, false⟩ : FrameWord).kind = .rsvd ∧ (at_ .tick).ctl = .wait := by decide

theorem witness_ChecksumErrorSendsAtMostOneNak :
    let s := { at_ .tick with rx := some .err }
    s.ctl = .wait ∧ s.rx = some .err ∧ s.noNak = true ∧
    ({ s with noNak := false } : State).noNak = false := by decide

theorem witness_TimeoutResendsTheTimersFrame :
    let s := { oneOut .tick with rtx := (Quad.fill RtxEntry.idle).set 0 (expired 0) }
    s.ctl = .wait ∧ (s.rtx.get s.sel).pending = true ∧ (s.rtx.get s.sel).tag = 0 ∧ slot 0 = s.sel ∧
    s.outBuf.read (slot 0) = some ⟨10⟩ := by decide

theorem witness_TimeoutOfUnwrittenSlotFaults :
    let s := { at_ .tick with rtx := (Quad.fill RtxEntry.idle).set 0 (expired 0) }
    s.ctl = .wait ∧ (s.rtx.get s.sel).pending = true ∧ (s.rtx.get s.sel).tag = 0 ∧
    s.outBuf.read (slot 0) = none := by decide

theorem witness_AckTimeoutSendsABareAck :
    let s := { oneIn .tick with ackt := { armed := false, count := 0, pending := true } }
    s.ctl = .wait ∧ s.ackt.pending = true := by decide

theorem witness_UnrecognizedEventsAreOnlyReported : (at_ .tick).ctl = .wait := rfl

/-- A step that transmits, for TransmittedFramesConform and TransmissionCancelsTheAckTimer. -/
theorem witness_transmission :
    ∃ t, exec .cksum { oneIn .tick with rx := some .err } = .next t ∧ t.ctl = .wait ∧
      t.out = [.takeRx, sent .nak 0 0 0] ∧ (∀ o ∈ t.out, o.isDeliver = false) :=
  ⟨_, rfl, by decide⟩

/-- A step that sends a NAK, one that delivers and one that does neither, for NakSuppression. -/
theorem witness_NakSuppression :
    (∃ t, exec .cksum { at_ .tick with rx := some .err } = .next t ∧ (∃ o ∈ t.out, o.isNak = true) ∧
      ∀ o ∈ t.out, o.isDeliver = false) ∧
    (∃ t, exec .faData { at_ .tick with rx := rxFrame .data 0 7 20 } = .next t ∧
      ∃ o ∈ t.out, o.isDeliver = true) ∧
    (∃ t, exec .rsvd5 (at_ .tick) = .next t ∧ (∀ o ∈ t.out, o.isDeliver = false) ∧
      ∀ o ∈ t.out, o.isNak = false) :=
  ⟨⟨_, rfl, by decide⟩, ⟨_, rfl, by decide⟩, ⟨_, rfl, by decide⟩⟩

/-- A full window: four outstanding frames held, and one arrived packet. -/
theorem witness_HeldPacketsAreNotOverwritten :
    let s := { threeOut .tick with nl := some ⟨13⟩, arrived := ⟨false, true, false, false⟩ }
    s.nout ≤ Config.nrBufs ∧ s.outstanding 2 = true ∧ s.arrived.get 1 = true ∧
    ∃ t, exec .nlr s = .next t ∧ t.credit = 0 := ⟨by decide, by decide, by decide, _, rfl, by decide⟩

theorem witness_grant :
    ∃ t, exec .faAck { threeOut .tick with rx := rxFrame .ack 0 2 0 } = .next t ∧
      Output.grant 3 ∈ t.out := ⟨_, rfl, by decide⟩

theorem witness_AcknowledgedFrameHasNoExpiry :
    let f := Frame.toWord ⟨.ack, 0, 0, ⟨0⟩, false⟩
    let s := { oneOut .tick with
      rtx := (Quad.fill RtxEntry.idle).set 0 (expired 0)
      rx := some (.frame f) }
    between s.ae f.ack s.nfts = true ∧ between s.ae 0 (inc f.ack) = true ∧
    ∃ t, exec .faAck s = .next t ∧ (s.rtx.get 0).live = true ∧ (t.rtx.get 0).live = false :=
  ⟨by decide, by decide, _, rfl, by decide, by decide⟩

/-- A state of a run that meets the whole invariant, with a frame outstanding and its timer expired, and
whose next step goes through. -/
theorem witness_EngineInv :
    EngineInv { oneOut (.take (.retransmit 0)) with rtx := (Quad.fill RtxEntry.idle).set 0 (expired 0) } ∧
    ∃ t, step { oneOut (.take (.retransmit 0)) with
      rtx := (Quad.fill RtxEntry.idle).set 0 (expired 0) } = .next t :=
  ⟨⟨rfl, rfl, by unfold WindowOk; decide, by decide, by decide, ⟨by decide, by decide⟩, by decide,
    by decide, by decide, ⟨by decide, by decide⟩⟩, _, rfl⟩

/-- A state no run reaches, with a tag that is in the wrong slot, that meets the three smaller
invariants, and whose next step goes through. -/
theorem witness_smaller_invariants :
    let s := { oneOut .tick with rtx := (Quad.fill RtxEntry.idle).set 3 (running 0) }
    BuffersOk s ∧ TimersOk s ∧ WindowOk s ∧ ∃ t, step s = .next t :=
  ⟨⟨by decide, by decide⟩, ⟨by decide, by decide⟩, by unfold WindowOk; decide, _, rfl⟩

/-- At `PAYLOAD_W = 4` with the largest packet. -/
theorem witness_MovesKeepPacketsInWidth :
    PacketsFit 4 State.reset ∧ (Move.offer ⟨15⟩).fits 4 ∧ ∃ t, makeMove (.offer ⟨15⟩) State.reset = .next t := by
  refine ⟨⟨?_, ?_, ?_, ?_, ?_⟩, ?_, ⟨_, rfl⟩⟩
  · intro c h; cases h
  · intro c h; cases h
  · intro p h; cases h
  · intro x h; cases h
  · intro o h
    cases h with
    | head => trivial
    | tail _ h => cases h
  · simp only [Move.fits, Packet.fits]; decide

/-- A frame in transit is delivered to an engine that meets its invariant. -/
theorem witness_linked_engines :
    CleanPair { Pair.reset with ab := [Frame.toWord ⟨.data, 0, 7, ⟨1⟩, true⟩] } ∧
    (∃ p, pairStep (.deliver .b) { Pair.reset with ab := [Frame.toWord ⟨.data, 0, 7, ⟨1⟩, true⟩] } = .next p ∧
      p.ab = [] ∧ p.b.rx = rxFrame .data 0 7 1) ∧
    ∃ p, pairStep (.engine .a (.offer ⟨1⟩)) Pair.reset = .next p :=
  ⟨⟨rfl, rfl, (fun _ h => by cases h), (fun _ h => by cases h), by decide, by decide⟩,
    ⟨_, rfl, by decide, by decide⟩, _, rfl⟩

end Sys2Proof.Tests
end

section
/-! SUPPORT. The reset values (10_state R40): what the slot tables, the slot buffers and the derived
signals are right after reset, at any timeouts. -/

namespace Sys2Proof.Machine

/-- 10 R27 to R29: no flag, no packet and no timer stands in any slot. -/
theorem State.resetWith_slot (c : Timeouts) (e : Slot) :
    (State.resetWith c).arrived.get e = false ∧ (State.resetWith c).inBuf.read e = none ∧
    (State.resetWith c).outBuf.read e = none ∧ (State.resetWith c).rtx.get e = RtxEntry.idle :=
  ⟨Quad.get_fill _ e, Memory.read_nil e, Memory.read_nil e, Quad.get_fill _ e⟩

/-- 10 R25: the receive window is `[0, 4)`. -/
@[simp] theorem State.resetWith_tf (c : Timeouts) : (State.resetWith c).tf = 4 := rfl

/-- 40 R107: no sequence number is outstanding, since `NFTS = AE`. -/
@[simp] theorem State.resetWith_nout (c : Timeouts) : (State.resetWith c).nout = 0 := by
  have hnfts : (State.resetWith c).nfts = (State.resetWith c).ae := rfl
  rw [nout_eq, hnfts, BitVec.sub_self]
  rfl

/-- 10 R31: all of the credit is there. -/
@[simp] theorem State.resetWith_credit (c : Timeouts) : (State.resetWith c).credit = 4 := by
  rw [State.credit, State.resetWith_nout, Nat.sub_zero]

/-- 10 R35, R40: the timeouts do not show in the status word, so it is the word at the default timeouts;
`NO_NAK`, `TF` and `CREDIT` are its only fields that are not zero. -/
theorem State.resetWith_statusO (c : Timeouts) : (State.resetWith c).statusO = 0x00081800#32 :=
  calc (State.resetWith c).statusO
    _ = State.reset.statusO := rfl
    _ = 0x00081800#32 := by decide

/-- Settles O18, from the reset values of the slots and of the derived signals; the plain fields are
those `State.resetWith` is built from. -/
theorem resetValues : Obligations.ResetValues := by
  unfold Obligations.ResetValues
  refine ⟨fun c => ?_, rfl, rfl, rfl⟩
  exact ⟨rfl, rfl, rfl, rfl, State.resetWith_tf c, rfl, State.resetWith_slot c, rfl,
    State.resetWith_credit c, rfl, rfl, State.resetWith_statusO c, rfl⟩

end Sys2Proof.Machine
end

section
/-! SUPPORT. The fields of a dispatch word (30_encoding R71), what the masks of the opcode map keep of
them, and which fields the decoder keeps; from these, that every word has exactly one row (R82). -/

namespace Sys2Proof

/-! ### A word and its fields -/

@[simp] theorem etype_dispatchWord (a : BitVec 3) (k : BitVec 2) (t : BitVec 3) :
    etype (dispatchWord a k t) = t :=
  BitVec.extractLsb'_append_eq_right

@[simp] theorem fkind_dispatchWord (a : BitVec 3) (k : BitVec 2) (t : BitVec 3) :
    fkind (dispatchWord a k t) = k :=
  calc fkind (dispatchWord a k t)
    _ = (a ++ k).extractLsb' 0 2 := BitVec.extractLsb'_append_eq_of_le (by decide : 3 ≤ 3)
    _ = k := BitVec.extractLsb'_append_eq_right

theorem dispatchWord_fields (ev : BitVec 8) : dispatchWord (arg ev) (fkind ev) (etype ev) = ev := by
  simp only [dispatchWord, arg, fkind, etype]
  rw [BitVec.extractLsb'_append_extractLsb'_eq_extractLsb' (by decide : 5 = 3 + 2),
    BitVec.extractLsb'_append_extractLsb'_eq_extractLsb' (by decide : 3 = 0 + 3)]
  exact BitVec.extractLsb'_eq_self

/-! ### What the masks of the opcode map keep -/

theorem dispatchWord_and (a a' : BitVec 3) (k k' : BitVec 2) (t t' : BitVec 3) :
    dispatchWord a k t &&& dispatchWord a' k' t' = dispatchWord (a &&& a') (k &&& k') (t &&& t') := by
  simp only [dispatchWord, ← BitVec.and_append]

/-- Mask `0x07` keeps `ETYPE` and nothing else. -/
theorem and_typeMask (ev : BitVec 8) : ev &&& 0x07 = dispatchWord 0 0 (etype ev) :=
  calc ev &&& 0x07
    _ = dispatchWord (arg ev) (fkind ev) (etype ev) &&& dispatchWord 0 0 (BitVec.allOnes 3) := by
      rw [dispatchWord_fields]; rfl
    _ = dispatchWord 0 0 (etype ev) := by
      rw [dispatchWord_and, BitVec.and_allOnes]; simp

/-- Mask `0x1F` keeps `FKIND` and `ETYPE`. -/
theorem and_kindMask (ev : BitVec 8) : ev &&& 0x1F = dispatchWord 0 (fkind ev) (etype ev) :=
  calc ev &&& 0x1F
    _ = dispatchWord (arg ev) (fkind ev) (etype ev) &&&
        dispatchWord 0 (BitVec.allOnes 2) (BitVec.allOnes 3) := by
      rw [dispatchWord_fields]; rfl
    _ = dispatchWord 0 (fkind ev) (etype ev) := by
      rw [dispatchWord_and, BitVec.and_allOnes, BitVec.and_allOnes]; simp

/-- A row looks at `ETYPE` alone, or it is a FRAME_ARRIVAL row and looks at `FKIND` too (R81). -/
theorem opcodeRows_masks : ∀ r ∈ opcodeRows,
    r.mask = 0x07 ∨ r.mask = 0x1F ∧ etype r.pattern = 0b001#3 := by
  decide

theorem covers_of_typeMask {r : OpcodeRow} (hmask : r.mask = 0x07) (ev : BitVec 8) :
    r.covers ev = (dispatchWord 0 0 (etype ev) == r.pattern) := by
  rw [OpcodeRow.covers, hmask, and_typeMask]

theorem covers_of_kindMask {r : OpcodeRow} (hmask : r.mask = 0x1F) (ev : BitVec 8) :
    r.covers ev = (dispatchWord 0 (fkind ev) (etype ev) == r.pattern) := by
  rw [OpcodeRow.covers, hmask, and_kindMask]

/-- A FRAME_ARRIVAL row covers no word of another event type. -/
theorem not_covers_of_etype_ne {r : OpcodeRow} (hmask : r.mask = 0x1F) {ev : BitVec 8}
    (hne : etype ev ≠ etype r.pattern) : r.covers ev = false := by
  rw [covers_of_kindMask hmask, beq_eq_false_iff_ne]
  intro heq
  exact hne (by rw [← heq, etype_dispatchWord])

/-! ### Which fields the decoder keeps -/

@[simp] theorem code_kindOfCode (c : BitVec 2) : (kindOfCode c).code = c := by
  revert c; decide

/-- The decoder keeps the event type of every word. -/
theorem etype_encode_decode (ev : BitVec 8) : etype (encode (decode ev)) = etype ev := by
  unfold decode
  split
  case h_2 h =>
    rw [BitVec.eq_of_toFin_eq h]
    split <;> exact etype_dispatchWord ..
  all_goals
    next h =>
      rw [BitVec.eq_of_toFin_eq h]
      exact etype_dispatchWord ..

/-- A FRAME_ARRIVAL word is decoded by its frame kind (R73). -/
theorem encode_decode_of_frameArrival {ev : BitVec 8} (h : etype ev = 0b001#3) :
    encode (decode ev) = dispatchWord 0 (kindOfCode (fkind ev)).code 0b001 := by
  simp only [decode, h]
  cases kindOfCode (fkind ev) <;> rfl

/-- The decoder keeps the frame kind of a FRAME_ARRIVAL word. -/
theorem fkind_encode_decode {ev : BitVec 8} (h : etype ev = 0b001#3) :
    fkind (encode (decode ev)) = fkind ev := by
  rw [encode_decode_of_frameArrival h, fkind_dispatchWord, code_kindOfCode]

/-! ### Every word has exactly one row -/

/-- A row covers a word exactly when it covers the encoding of what the word decodes to: the two words
differ only in fields that the decoder and the row both ignore. -/
theorem covers_encode_decode {r : OpcodeRow} (hr : r ∈ opcodeRows) (ev : BitVec 8) :
    r.covers (encode (decode ev)) = r.covers ev := by
  rcases opcodeRows_masks r hr with hmask | ⟨hmask, hpat⟩
  · rw [covers_of_typeMask hmask, covers_of_typeMask hmask, etype_encode_decode]
  · by_cases h : etype ev = 0b001#3
    · rw [covers_of_kindMask hmask, covers_of_kindMask hmask, etype_encode_decode,
        fkind_encode_decode h]
    · have hne : etype ev ≠ etype r.pattern := by rwa [hpat]
      rw [not_covers_of_etype_ne hmask hne,
        not_covers_of_etype_ne hmask (by rwa [etype_encode_decode])]

/-- Every instruction's encoding has the one row with the instruction's mnemonic (R81). -/
theorem Laws.mnemonicRow (i : Instr) : MnemonicRow.Statement i := by
  cases i with
  | nlr => exact MnemonicRow.nlr
  | faData => exact MnemonicRow.faData
  | faAck => exact MnemonicRow.faAck
  | faNak => exact MnemonicRow.faNak
  | faRsvd => exact MnemonicRow.faRsvd
  | cksum => exact MnemonicRow.cksum
  | timeout q => exact MnemonicRow.timeout q
  | ackto => exact MnemonicRow.ackto
  | rsvd5 => exact MnemonicRow.rsvd5
  | rsvd6 => exact MnemonicRow.rsvd6
  | rsvd7 => exact MnemonicRow.rsvd7

/-- Settles O6: the rows that cover a word are those that cover the encoding of its instruction, and
that is the one row with the instruction's mnemonic. -/
theorem everyWordMatchesExactlyOneRow : Obligations.EveryWordMatchesExactlyOneRow := by
  unfold Obligations.EveryWordMatchesExactlyOneRow
  intro ev
  refine ⟨?_, fun rest => rfl⟩
  obtain ⟨r, hrow, hmnemonic⟩ := Laws.mnemonicRow (decode ev)
  have hsame : opcodeRows.filter (fun r => r.covers ev) =
      opcodeRows.filter (fun r => r.covers (encode (decode ev))) :=
    List.filter_congr fun r hr => (covers_encode_decode hr ev).symm
  rw [hsame, hrow, List.map_singleton, hmnemonic]

end Sys2Proof
end

section
/-! SUPPORT. Sequence arithmetic (40_sequence_arithmetic): what the unit answers as numbers modulo 8,
the comparator as a comparison of distances from its lower bound, and the slots of a window. -/

namespace Sys2Proof.Machine

/-! ### Successor and predecessor -/

theorem inc_toNat (n : Seq) : (inc n).toNat = (n.toNat + 1) % (Config.maxSeq + 1) := by
  simp [inc]

theorem dec_toNat (n : Seq) : (dec n).toNat = (n.toNat + Config.maxSeq) % (Config.maxSeq + 1) := by
  simp [dec]

theorem inc_dec (n : Seq) : inc (dec n) = n := by
  rw [inc_eq, dec_eq, BitVec.sub_add_cancel]

theorem dec_inc (n : Seq) : dec (inc n) = n := by
  rw [inc_eq, dec_eq, BitVec.add_sub_cancel]

/-- Settles O1. -/
theorem incrementIsModularSuccessor : Obligations.IncrementIsModularSuccessor := by
  unfold Obligations.IncrementIsModularSuccessor
  refine ⟨fun n => ⟨inc_toNat n, ?_, fun hlt => ?_⟩, rfl, rfl⟩
  · rw [inc_eq, BitVec.ofNat_add, BitVec.ofNat_toNat, BitVec.setWidth_eq]
  · rw [inc_toNat, Nat.mod_eq_of_lt (Nat.succ_lt_succ hlt)]

/-- Settles O2: on 3-bit words `inc` adds 1 and `dec` subtracts it. -/
theorem predecessorIsModular : Obligations.PredecessorIsModular := by
  unfold Obligations.PredecessorIsModular
  exact ⟨fun n => ⟨dec_toNat n, inc_dec n, dec_inc n⟩, rfl, rfl⟩

/-! ### The comparator -/

/-- 40 R104, with the modular differences of the model. -/
theorem between_iff_seqDiff (a x b : Seq) : between a x b = true ↔ seqDiff x a < seqDiff b a := by
  rw [between_iff, seqDiff_eq, seqDiff_eq]

theorem seqDiff_add_left (a : Seq) {k : Nat} (hk : k < 8) :
    seqDiff (a + BitVec.ofNat 3 k) a = k := by
  rw [seqDiff_eq, BitVec.add_comm, BitVec.add_sub_cancel, BitVec.toNat_ofNat, Nat.mod_eq_of_lt hk]

theorem add_seqDiff (a x : Seq) : a + BitVec.ofNat 3 (seqDiff x a) = x := by
  rw [seqDiff_eq, BitVec.ofNat_toNat, BitVec.setWidth_eq, BitVec.add_comm, BitVec.sub_add_cancel]

/-- The number met `k` places forward from `a` is in the interval when `k` is below its size. -/
theorem between_add_left (a b : Seq) {k : Nat} (hk : k < 8) :
    between a (a + BitVec.ofNat 3 k) b = true ↔ k < seqDiff b a := by
  rw [between_iff_seqDiff, seqDiff_add_left a hk]

theorem between_iff_exists_offset (a x b : Seq) :
    between a x b = true ↔ ∃ k : Fin 8, k.val < seqDiff b a ∧ x = a + BitVec.ofNat 3 k.val := by
  constructor
  · intro h
    exact ⟨⟨seqDiff x a, seqDiff_lt x a⟩, (between_iff_seqDiff a x b).mp h, (add_seqDiff a x).symm⟩
  · rintro ⟨k, hk, rfl⟩
    exact (between_add_left a b k.isLt).mpr hk

/-- Settles O3: the formula as it stands in the model, and the offset from `a`. -/
theorem betweenIsTheCircularInterval : Obligations.BetweenIsTheCircularInterval := by
  unfold Obligations.BetweenIsTheCircularInterval
  refine ⟨fun a x b => ?_, between_iff_exists_offset, rfl, rfl⟩
  simp only [between, Bool.or_eq_true, Bool.and_eq_true, decide_eq_true_eq, or_assoc]

/-- The sequence numbers from 0 are, in another order, those met going forward from `a`. -/
theorem seqs_perm_seqs_from (a : Seq) :
    ((List.range 8).map (BitVec.ofNat 3)).Perm
      ((List.range 8).map fun k => a + BitVec.ofNat 3 k) := by
  revert a
  decide

theorem countP_range_lt_seqDiff (b a : Seq) :
    (List.range 8).countP (fun k => decide (k < seqDiff b a)) = seqDiff b a := by
  rw [seqDiff_eq]
  generalize b - a = d
  revert d
  decide

/-- 40 R104(a). -/
theorem length_filter_between (a b : Seq) :
    ((List.range 8).filter fun y => between a (BitVec.ofNat 3 y) b).length = seqDiff b a :=
  calc ((List.range 8).filter fun y => between a (BitVec.ofNat 3 y) b).length
    _ = ((List.range 8).map (BitVec.ofNat 3)).countP (between a · b) := by
      rw [List.countP_map, List.countP_eq_length_filter]
      rfl
    _ = ((List.range 8).map fun k => a + BitVec.ofNat 3 k).countP (between a · b) :=
      (seqs_perm_seqs_from a).countP_eq _
    _ = (List.range 8).countP (fun k => decide (k < seqDiff b a)) := by
      rw [List.countP_map]
      refine List.countP_congr fun k hk => ?_
      simpa using between_add_left a b (List.mem_range.mp hk)
    _ = seqDiff b a := countP_range_lt_seqDiff b a

/-- 40 R104(c). -/
theorem between_lower_iff (a b : Seq) : between a a b = true ↔ a ≠ b := by
  constructor
  · rintro h rfl
    exact Nat.lt_irrefl _ ((between_iff a a a).mp h)
  · intro hne
    rw [between_iff_seqDiff, seqDiff_self, seqDiff_pred hne.symm]
    exact Nat.succ_pos _

/-- 40 R104(b): with the lower bound one place on, only the old lower bound falls out. -/
theorem between_inc_iff {a x b : Seq} (h : between a x b = true) :
    between (inc a) x b = true ↔ x ≠ a := by
  rw [inc_eq]
  constructor
  · rintro hin rfl
    rw [between_self_succ] at hin
    exact Bool.false_ne_true hin
  · intro hne
    rw [between_iff_seqDiff] at h ⊢
    have hb : b ≠ a := by
      rintro rfl
      rw [seqDiff_self] at h
      exact Nat.not_lt_zero _ h
    rw [seqDiff_pred hne, seqDiff_pred hb] at h
    exact Nat.lt_of_succ_lt_succ h

/-- Settles O4. -/
theorem betweenCountsDistances : Obligations.BetweenCountsDistances := by
  unfold Obligations.BetweenCountsDistances
  intro a x b
  refine ⟨?_, length_filter_between a b, between_inc_iff, between_lower_iff a b⟩
  rw [Bool.eq_iff_iff, decide_eq_true_iff]
  exact between_iff_seqDiff a x b

/-! ### Slots -/

/-- 40 R106: the slot is `q[1:0]`. -/
theorem slot_val_eq_lowBits (q : Seq) : (slot q).val = (q.extractLsb' 0 2).toNat := by
  simp [slot]

theorem slot_add_four (q : Seq) : slot q = slot (q + 4) := by
  rw [slot_eq_iff]
  right
  rw [BitVec.add_assoc]
  exact (BitVec.add_zero q).symm

theorem slot_ofNat (j : Slot) : slot (BitVec.ofNat 3 j.val) = j := by
  revert j
  decide

/-- Going the same way forward from two numbers keeps whether they share a slot. -/
theorem slot_add_left_iff (q x y : Seq) : slot (q + x) = slot (q + y) ↔ slot x = slot y := by
  simp only [slot_eq_iff, BitVec.add_assoc, BitVec.add_right_inj]

/-- Settles O5: within a window the slots differ because the offsets from its first number do. -/
theorem slotIsTheLowTwoBits : Obligations.SlotIsTheLowTwoBits := by
  unfold Obligations.SlotIsTheLowTwoBits
  refine ⟨fun q => ⟨rfl, slot_val_eq_lowBits q, slot_add_four q⟩, fun q j k hslot => ?_, rfl, rfl⟩
  calc j
    _ = slot (BitVec.ofNat 3 j.val) := (slot_ofNat j).symm
    _ = slot (BitVec.ofNat 3 k.val) := (slot_add_left_iff q _ _).mp hslot
    _ = k := slot_ofNat k

end Sys2Proof.Machine
end

section
/-! SUPPORT. The timer manager's operations (41_timer_manager) as record updates: when an entry is
taken, what cancelling leaves of it, and what a tick leaves alone. -/

namespace Sys2Proof.Machine

/-! ### The retransmit timers -/

/-- 10 R29: live is armed or pending. -/
theorem RtxEntry.live_iff (e : RtxEntry) : e.live = true ↔ e.armed = true ∨ e.pending = true :=
  Bool.or_eq_true_iff

/-- 41 R126: the tag stays, so an entry cancelled under its own number has every field fixed. -/
theorem RtxEntry.cancelled_of_tag {e : RtxEntry} {q : Seq} (h : e.tag = q) :
    e.cancelled = { armed := false, tag := q, count := 0, pending := false } := by
  subst h
  rfl

/-- Settles O21: the slot-reuse assertion fails exactly on a taken slot. -/
theorem armRetransmitOrSlotReuse : Obligations.ArmRetransmitOrSlotReuse := by
  unfold Obligations.ArmRetransmitOrSlotReuse
  intro q s
  simp only [← RtxEntry.live_iff]
  by_cases htaken : Taken q s
  · rw [armRetransmit_ended htaken, if_pos htaken]
    rfl
  · rw [armRetransmit_running htaken, if_neg htaken]
    rfl

theorem cancelRetransmit_of_tag {q : Seq} {s : State} (h : (s.rtx.get (slot q)).tag = q) :
    cancelRetransmit q s = s.setRtx (slot q) (s.rtx.get (slot q)).cancelled :=
  if_pos h

theorem cancelRetransmit_of_tag_ne {q : Seq} {s : State} (h : (s.rtx.get (slot q)).tag ≠ q) :
    cancelRetransmit q s = s :=
  if_neg h

/-- Settles O22, by whether the entry of the slot carries the number. -/
theorem cancelRetransmitIsKeyedByNumber : Obligations.CancelRetransmitIsKeyedByNumber := by
  unfold Obligations.CancelRetransmitIsKeyedByNumber
  intro q s
  refine ⟨fun htag => ?_, cancelRetransmit_of_tag_ne⟩
  rw [cancelRetransmit_of_tag htag, RtxEntry.cancelled_of_tag htag]
  rfl

/-! ### The plain writes -/

/-- Settles O23: each operation is one write to its own timer, by definition. -/
theorem timerOperations : Obligations.TimerOperations := by
  unfold Obligations.TimerOperations
  exact fun s e => ⟨rfl, rfl, rfl, rfl⟩

/-! ### One tick -/

/-- 41 R127, R133: a tick changes the timers only, and emits nothing. -/
theorem State.tick_frame (s : State) :
    s.tick = { s with rtx := s.tick.rtx, ackt := s.tick.ackt, out := [] } := rfl

/-- 41 R127 "simultaneously": what a tick leaves of an entry depends on that entry alone. -/
theorem State.tick_rtx_get (s : State) (e : Slot) :
    s.tick.rtx.get e = (s.rtx.get e).tick (timerWidth s.timeouts) := by
  rw [State.tick_rtx, Quad.get_map]

/-- Settles O24, from the tick of one entry and of the acknowledgement timer, idle and armed. -/
theorem tickCountsEveryTimerDown : Obligations.TickCountsEveryTimerDown := by
  unfold Obligations.TickCountsEveryTimerDown
  intro s
  refine ⟨s.tick, rfl, fun e => ⟨fun hidle => ?_, fun harmed hpos hlt => ?_⟩, ?_, ?_, s.tick_frame⟩
  · exact (s.tick_rtx_get e).trans (RtxEntry.tick_idle hidle)
  · exact (s.tick_rtx_get e).trans (RtxEntry.tick_armed harmed hpos hlt)
  · exact AckTimer.tick_idle
  · exact AckTimer.tick_armed

end Sys2Proof.Machine
end

section
/-! SUPPORT. The frame assembler (42_frame_assembler): the one outcome of `send_frame(DATA, nr)` in each
state of the slot's buffer and timer. -/

namespace Sys2Proof.Machine

section
variable {nr : Seq} {s : State} {p : Packet}

/-- 60 R225: with no packet in the slot there is no transmission. -/
theorem sendData_of_read_none (hread : s.outBuf.read (slot nr) = none) :
    sendData nr s = .ended (s.raiseFault .unwrittenSlot) := by
  rcases sendData_cases nr s with ⟨_, hsend⟩ | ⟨_, hsome, _⟩ | ⟨_, hsome, _⟩
  · exact hsend
  · cases hread.symm.trans hsome
  · cases hread.symm.trans hsome

/-- 41 R124: the slot-reuse fault comes after the transmission, which stands. -/
theorem sendData_of_taken (hread : s.outBuf.read (slot nr) = some p) (htaken : Taken nr s) :
    sendData nr s = .ended ((s.emit (.tx (dataFrame nr p s).toWord)).raiseFault .slotReuse) := by
  rcases sendData_cases nr s with ⟨hnone, _⟩ | ⟨_, hsome, _, hsend⟩ | ⟨_, _, hfree, _⟩
  · cases hread.symm.trans hnone
  · cases hread.symm.trans hsome
    exact hsend
  · exact absurd htaken hfree

/-- 42 R156, R157: after the transmission the slot's timer is armed and the acknowledgement timer idle. -/
theorem sendData_of_not_taken (hread : s.outBuf.read (slot nr) = some p) (hfree : ¬ Taken nr s) :
    sendData nr s =
      .running (cancelAckDelay ((s.emit (.tx (dataFrame nr p s).toWord)).setRtx (slot nr)
        (RtxEntry.armedFor s.timeouts nr))) := by
  rcases sendData_cases nr s with ⟨hnone, _⟩ | ⟨_, _, htaken, _⟩ | ⟨_, hsome, _, hsend⟩
  · cases hread.symm.trans hnone
  · exact absurd htaken hfree
  · cases hread.symm.trans hsome
    exact hsend

end

/-- Settles O28: ACK and NAK always go through; DATA by whether the slot holds a packet, and then by
whether its timer is taken. -/
theorem sendFrameEffects : Obligations.SendFrameEffects := by
  unfold Obligations.SendFrameEffects
  refine ⟨sendAck_eq, sendNak_eq, fun nr s hread => sendData_of_read_none hread, ?_⟩
  intro nr s p hread
  by_cases htaken : Taken nr s
  · exact (sendData_of_taken hread htaken).trans (if_pos htaken).symm
  · exact (sendData_of_not_taken hread htaken).trans (if_neg htaken).symm

end Sys2Proof.Machine
end

section
/-! SUPPORT. The dispatch words of each instruction (30_encoding R71 to R75, R81): the decoder reads the
event type of every word, the frame kind of a FRAME_ARRIVAL word, the number of a TIMEOUT word, and no
other field. -/

namespace Sys2Proof

@[simp] theorem arg_dispatchWord (a : BitVec 3) (k : BitVec 2) (t : BitVec 3) :
    arg (dispatchWord a k t) = a :=
  calc arg (dispatchWord a k t)
    _ = (a ++ k).extractLsb' 2 3 := BitVec.extractLsb'_append_eq_of_le (by decide : 3 ≤ 5)
    _ = a.extractLsb' 0 3 := BitVec.extractLsb'_append_eq_of_le (Nat.le_refl 2)
    _ = a := BitVec.extractLsb'_eq_self

/-- The decoder reads no other field than these. -/
theorem decode_congr {ev ev' : BitVec 8} (htype : etype ev = etype ev')
    (hkind : etype ev = 0b001#3 → fkind ev = fkind ev')
    (harg : etype ev = 0b011#3 → arg ev = arg ev') : decode ev = decode ev' := by
  unfold decode
  rw [← htype]
  split
  case h_2 h => rw [hkind (BitVec.eq_of_toFin_eq h)]
  case h_4 h => rw [harg (BitVec.eq_of_toFin_eq h)]
  all_goals rfl

theorem decode_of_timeout {ev : BitVec 8} (h : etype ev = 0b011#3) :
    decode ev = .timeout (arg ev) := by
  simp only [decode, h]
  rfl

/-- The decoder keeps the number of a TIMEOUT word (R75). -/
theorem arg_encode_decode {ev : BitVec 8} (h : etype ev = 0b011#3) :
    arg (encode (decode ev)) = arg ev := by
  rw [decode_of_timeout h]
  exact arg_dispatchWord ..

theorem decode_encode_timeout (q : Seq) : decode (encode (.timeout q)) = .timeout q := by
  have htype : etype (encode (.timeout q)) = 0b011#3 := etype_dispatchWord ..
  rw [decode_of_timeout htype]
  exact congrArg Instr.timeout (arg_dispatchWord ..)

theorem decode_encode (i : Instr) : decode (encode i) = i := by
  cases i with
  | timeout q => exact decode_encode_timeout q
  | _ => rfl

/-- A word stands for an instruction when it agrees with its encoding in the fields the decoder reads. -/
theorem decode_eq_iff (i : Instr) (ev : BitVec 8) :
    decode ev = i ↔ etype ev = etype (encode i) ∧
      (etype ev = 0b001#3 → fkind ev = fkind (encode i)) ∧
      (etype ev = 0b011#3 → arg ev = arg (encode i)) := by
  constructor
  · rintro rfl
    exact ⟨(etype_encode_decode ev).symm, fun h => (fkind_encode_decode h).symm,
      fun h => (arg_encode_decode h).symm⟩
  · rintro ⟨htype, hkind, harg⟩
    rw [decode_congr htype hkind harg, decode_encode]

theorem and_typeMask_eq_iff (ev : BitVec 8) (t : BitVec 3) :
    ev &&& 0x07 = dispatchWord 0 0 t ↔ etype ev = t := by
  rw [and_typeMask]
  refine ⟨fun h => ?_, fun h => by rw [h]⟩
  simpa using congrArg etype h

theorem and_kindMask_eq_iff (ev : BitVec 8) (k : BitVec 2) (t : BitVec 3) :
    ev &&& 0x1F = dispatchWord 0 k t ↔ fkind ev = k ∧ etype ev = t := by
  rw [and_kindMask]
  refine ⟨fun h => ?_, fun ⟨hk, ht⟩ => by rw [hk, ht]⟩
  exact ⟨by simpa using congrArg fkind h, by simpa using congrArg etype h⟩

/-- The words of an instruction without operand and frame kind: those with its event type. -/
theorem decode_eq_iff_typeMask {i : Instr} (h1 : etype (encode i) ≠ 0b001#3)
    (h3 : etype (encode i) ≠ 0b011#3) (ev : BitVec 8) :
    decode ev = i ↔ ev &&& 0x07 = dispatchWord 0 0 (etype (encode i)) := by
  rw [and_typeMask_eq_iff, decode_eq_iff]
  refine ⟨And.left, fun h => ⟨h, fun hev => ?_, fun hev => ?_⟩⟩
  · exact absurd (h.symm.trans hev) h1
  · exact absurd (h.symm.trans hev) h3

/-- The words of a FRAME_ARRIVAL instruction: those with its event type and frame kind. -/
theorem decode_eq_iff_kindMask {i : Instr} (h1 : etype (encode i) = 0b001#3) (ev : BitVec 8) :
    decode ev = i ↔ ev &&& 0x1F = dispatchWord 0 (fkind (encode i)) 0b001#3 := by
  rw [and_kindMask_eq_iff, decode_eq_iff, h1]
  refine ⟨fun ⟨htype, hkind, _⟩ => ⟨hkind htype, htype⟩, fun ⟨hkind, htype⟩ => ?_⟩
  refine ⟨htype, fun _ => hkind, fun hev => ?_⟩
  exact absurd (htype.symm.trans hev) (by decide)

/-- The words of TIMEOUT: those with its event type and number. -/
theorem decode_eq_timeout_iff (ev : BitVec 8) (q : Seq) :
    decode ev = .timeout q ↔ ev &&& 0x07 = dispatchWord 0 0 0b011#3 ∧ arg ev = q := by
  rw [and_typeMask_eq_iff]
  constructor
  · intro h
    have htype : etype ev = 0b011#3 := ((decode_eq_iff _ _).mp h).1.trans (etype_dispatchWord ..)
    exact ⟨htype, Instr.timeout.inj ((decode_of_timeout htype).symm.trans h)⟩
  · rintro ⟨htype, rfl⟩
    exact decode_of_timeout htype

/-- A header made of fields has its kind (30_encoding R76, R78). -/
@[simp] theorem kind_toWord (f : Frame) : f.toWord.kind = f.kind := by
  have hcode : f.toWord.hdr.extractLsb' 0 2 = f.kind.code := BitVec.extractLsb'_append_eq_right
  rw [FrameWord.kind, hcode]
  cases f.kind <;> rfl

end Sys2Proof

namespace Sys2Proof.Machine

/-! ### The word the arbiter forms for an eligible event -/

/-- The arbiter copies the kind of the frame at the port into the word (30_encoding R73). -/
theorem arbitrate_frame {s : State} {f : FrameWord} {k : Kind} (hctl : s.ctl = .wait)
    (hrx : s.rx = some (.frame f)) (hkind : f.kind = k) :
    arbitrate .receive s = some (dispatchWord 0 k.code 0b001, s.sel) := by
  have hcode : f.kind.code = f.hdr.extractLsb' 0 2 := code_kindOfCode _
  simp only [arbitrate, hctl, hrx, ← hkind, hcode]

theorem arbitrate_err {s : State} (hctl : s.ctl = .wait) (hrx : s.rx = some .err) :
    arbitrate .receive s = some (dispatchWord 0 0 0b010, s.sel) := by
  simp only [arbitrate, hctl, hrx]

theorem arbitrate_upper {s : State} {p : Packet} (h : s.offered = some p) :
    arbitrate .upper s = some (dispatchWord 0 0 0b000, s.sel) := by
  simp only [arbitrate, h, Option.isSome_some, if_true]

theorem arbitrate_retransmit {s : State} {e : Slot} (h : s.expired e = true) :
    arbitrate (.retransmit e) s = some (dispatchWord (s.rtx.get e).tag 0 0b011, e) := by
  simp only [arbitrate, h, if_true]

theorem arbitrate_ackDelay {s : State} (h : s.ackDue = true) :
    arbitrate .ackDelay s = some (dispatchWord 0 0 0b100, s.sel) := by
  simp only [arbitrate, h, if_true]

/-- 60 R227: no word of the arbiter has a reserved event type. -/
theorem etype_le_of_arbitrate {src : Source} {s : State} {ev : BitVec 8} {e : Slot}
    (h : arbitrate src s = some (ev, e)) : (etype ev).toNat ≤ 4 := by
  have hword : ∃ a k t, ev = dispatchWord a k t ∧ t.toNat ≤ 4 := by
    cases src with
    | receive =>
      simp only [arbitrate] at h
      split at h
      · cases h; exact ⟨_, _, _, rfl, by decide⟩
      · cases h; exact ⟨_, _, _, rfl, by decide⟩
      · cases h
    | _ =>
      simp only [arbitrate] at h
      split at h
      · cases h; exact ⟨_, _, _, rfl, by decide⟩
      · cases h
  obtain ⟨a, k, t, rfl, ht⟩ := hword
  rwa [etype_dispatchWord]

/-- The arbiter forms no word of an instruction whose event type is above 4. -/
theorem decode_ne_of_arbitrate {src : Source} {s : State} {ev : BitVec 8} {e : Slot} {i : Instr}
    (h : arbitrate src s = some (ev, e)) (hi : 4 < (etype (encode i)).toNat) : decode ev ≠ i := by
  rintro rfl
  rw [etype_encode_decode] at hi
  exact Nat.not_lt.mpr (etype_le_of_arbitrate h) hi

end Sys2Proof.Machine
end

section
/-! SUPPORT. The events of 43_protocol_engine that acknowledge nothing: what `exec` answers when the
event's source condition holds, and the statements about them (R181, R185, R187 to R189). -/

namespace Sys2Proof.Machine

/-- The slot's timer is free for `q`: it is not live, or carries `q` itself (41 R124). -/
theorem not_taken_iff (q : Seq) (s : State) :
    ¬ Taken q s ↔ ((s.rtx.get (slot q)).live = true → (s.rtx.get (slot q)).tag = q) :=
  not_and_not_right

/-- What `send_frame(DATA, nr)` leaves when it goes through, as one record (42 R152 to R157). -/
theorem sendData_running {nr : Seq} {s : State} {p : Packet}
    (hread : s.outBuf.read (slot nr) = some p) (hfree : ¬ Taken nr s) :
    sendData nr s =
      .running { s with
        rtx := s.rtx.set (slot nr) (RtxEntry.armedFor s.timeouts nr)
        ackt := AckTimer.idle
        out := s.out ++ [.tx (dataFrame nr p s).toWord] } :=
  (sendData_of_not_taken hread hfree).trans rfl

/-- 43 R181. -/
theorem exec_faRsvd_of_arriving {s : State} {f : FrameWord} (h : s.arriving .rsvd = some f) :
    exec .faRsvd s = .next (s.takeRx.raiseAnomaly .rsvdKind) := by
  simp only [exec, execFaRsvd, h, Flow.outcome_eq, Flow.state_running]

/-- 43 R185. -/
theorem exec_cksum_of_corrupted {s : State} (h : s.corrupted = true) :
    exec .cksum s = .next (nakIfAllowed s.takeRx).state := by
  simp only [exec, execCksum, h, if_true, Flow.outcome_eq]

/-- 43 R187. -/
theorem exec_timeout_of_expired {s : State} (h : s.expired s.sel = true) :
    exec (.timeout (s.rtx.get s.sel).tag) s =
      .next (sendData (s.rtx.get s.sel).tag (consumeTimeout s.sel s.begin)).state := by
  simp only [exec, execTimeout, h, and_self, if_true, Flow.outcome_eq, sendFrame]

/-- 43 R188. -/
theorem exec_ackto_of_ackDue {s : State} (h : s.ackDue = true) :
    exec .ackto s = .next (sendControl .ack 0 (consumeAckTimeout s.begin)) := by
  simp only [exec, execAckto, h, if_true, sendFrame, Flow.outcome_eq, Flow.state_running]

/-- 43 R189. -/
theorem unrecognizedEvent_of_wait {s : State} (h : s.ctl = .wait) :
    unrecognizedEvent s = .next (s.begin.raiseAnomaly .unrecognizedEvent) :=
  if_pos h

/-- Settles O36. -/
theorem reservedKindIsOnlyReported : Obligations.ReservedKindIsOnlyReported := by
  unfold Obligations.ReservedKindIsOnlyReported
  refine ⟨decode_eq_iff_kindMask (i := .faRsvd) rfl, fun s f hctl hrx hkind => ?_⟩
  refine ⟨arbitrate_frame hctl hrx hkind, ?_⟩
  rw [exec_faRsvd_of_arriving ((arriving_iff _ _ _).mpr ⟨hctl, hrx, hkind⟩)]
  rfl

/-- Settles O37, by whether a NAK may be sent. -/
theorem checksumErrorSendsAtMostOneNak : Obligations.ChecksumErrorSendsAtMostOneNak := by
  unfold Obligations.ChecksumErrorSendsAtMostOneNak
  refine ⟨decode_eq_iff_typeMask (i := .cksum) (by decide) (by decide), fun s hctl hrx => ?_⟩
  have hexec := exec_cksum_of_corrupted ((corrupted_iff s).mpr ⟨hctl, hrx⟩)
  refine ⟨arbitrate_err hctl hrx, fun hnak => ?_, fun hnak => ?_⟩
  · have hallowed : nakIfAllowed s.takeRx = sendFrame .nak 0 s.takeRx := if_pos hnak
    rw [hexec, hallowed, sendNak_eq]
    rfl
  · have hquiet : nakIfAllowed s.takeRx = .running s.takeRx := if_neg (by simp [hnak])
    rw [hexec, hquiet]
    rfl

/-- Settles O38: consuming the expiry keeps the entry's tag, which is the number resent, so the slot is
not taken and the resend goes through; arming overwrites what consuming left of the entry. -/
theorem timeoutResendsTheTimersFrame : Obligations.TimeoutResendsTheTimersFrame := by
  unfold Obligations.TimeoutResendsTheTimersFrame
  refine ⟨decode_eq_timeout_iff, fun s e hctl hpend => ?_, ?_⟩
  · exact arbitrate_retransmit ((expired_iff e s).mpr ⟨hctl, hpend⟩)
  · rintro s q p hctl hpend rfl hslot hread
    have hfree : ¬ Taken (s.rtx.get s.sel).tag (consumeTimeout s.sel s.begin) := by
      rw [not_taken_iff, hslot]
      intro _
      simp [consumeTimeout]
    rw [exec_timeout_of_expired ((expired_iff _ s).mpr ⟨hctl, hpend⟩),
      sendData_running (s := consumeTimeout s.sel s.begin) hread hfree, hslot]
    simp only [consumeTimeout, State.setRtx, Quad.set_set]
    rfl

/-- Settles O40. -/
theorem ackTimeoutSendsABareAck : Obligations.AckTimeoutSendsABareAck := by
  unfold Obligations.AckTimeoutSendsABareAck
  refine ⟨decode_eq_iff_typeMask (i := .ackto) (by decide) (by decide), fun s hctl hpend => ?_⟩
  have hdue : s.ackDue = true := (ackDue_iff s).mpr ⟨hctl, hpend⟩
  exact ⟨arbitrate_ackDelay hdue, exec_ackto_of_ackDue hdue⟩

/-- Settles O41: the three instructions share one handler, and their event types are above 4. -/
theorem unrecognizedEventsAreOnlyReported : Obligations.UnrecognizedEventsAreOnlyReported := by
  unfold Obligations.UnrecognizedEventsAreOnlyReported
  refine ⟨fun ev => ?_, fun src s ev e harb => ?_, fun s hctl => ?_⟩
  · exact ⟨decode_eq_iff_typeMask (i := .rsvd5) (by decide) (by decide) ev,
      decode_eq_iff_typeMask (i := .rsvd6) (by decide) (by decide) ev,
      decode_eq_iff_typeMask (i := .rsvd7) (by decide) (by decide) ev⟩
  · exact ⟨decode_ne_of_arbitrate harb (by decide), decode_ne_of_arbitrate harb (by decide),
      decode_ne_of_arbitrate harb (by decide)⟩
  · have hexec := unrecognizedEvent_of_wait hctl
    exact ⟨hexec, hexec, hexec⟩

end Sys2Proof.Machine
end

section
/-! SUPPORT. The events of 43_protocol_engine that send a packet or process an acknowledgement: what
`exec` answers when the event's source condition holds, and the statements about them (R172 to R180). -/

namespace Sys2Proof.Machine

/-! ### NETWORK_LAYER_READY -/

/-- 43 R172. -/
theorem exec_nlr_of_offered {s : State} {p : Packet} (h : s.offered = some p) :
    exec .nlr s = .next (sendPacket p s.takeNl).state := by
  simp only [exec, execNlr, h, Flow.outcome_eq]

/-- The other number that shares the slot of `NFTS` is not outstanding while there is credit. -/
theorem between_add_four_of_credit {ae nfts : Seq} (h : seqDiff nfts ae < 4) :
    between ae (nfts + 4#3) nfts = false := by
  revert ae nfts
  decide

/-- The premise of R172 follows from the invariant: a live entry in the slot of `NFTS` carries an
outstanding number of that slot, and with credit that is not the one 4 further. -/
theorem nfts_slot_free_of_inv {s : State} (hinv : EngineInv s) (hcredit : 0 < s.credit)
    (hlive : (s.rtx.get (slot s.nfts)).live = true) : (s.rtx.get (slot s.nfts)).tag = s.nfts := by
  obtain ⟨hslot, hout⟩ := hinv.liveOutstanding _ hlive
  refine ((slot_eq_iff _ _).mp hslot).resolve_right fun htag => ?_
  rw [htag, State.outstanding, between_add_four_of_credit ((credit_pos_iff s).mp hcredit)] at hout
  cases hout

/-- One more outstanding frame is one unit of credit less (10_state R31). -/
theorem seqDiff_inc_left {ae nfts : Seq} (h : seqDiff nfts ae < 4) :
    seqDiff (nfts + 1#3) ae = seqDiff nfts ae + 1 := by
  revert ae nfts
  decide

theorem credit_setNfts_succ {s : State} (h : 0 < s.credit) :
    (s.setNfts (s.nfts + 1#3)).credit + 1 = s.credit := by
  have hroom : seqDiff s.nfts s.ae < 4 := (credit_pos_iff s).mp h
  have hnew : (s.setNfts (s.nfts + 1#3)).credit = 4 - (seqDiff s.nfts s.ae + 1) :=
    congrArg (4 - ·) (seqDiff_inc_left hroom)
  have hold : s.credit = 4 - seqDiff s.nfts s.ae := rfl
  rw [hnew, hold]
  omega

/-- Settles O29. -/
theorem nlrSendsTheOfferedPacket : Obligations.NlrSendsTheOfferedPacket := by
  unfold Obligations.NlrSendsTheOfferedPacket
  refine ⟨decode_eq_iff_typeMask (i := .nlr) (by decide) (by decide), ?_⟩
  intro s p hctl hnl hcredit
  have hoff : s.offered = some p :=
    (offered_iff s p).mpr ⟨hctl, (credit_pos_iff s).mp hcredit, hnl⟩
  refine ⟨arbitrate_upper hoff, fun hinv => nfts_slot_free_of_inv hinv hcredit, fun hfree => ?_⟩
  have hfree' : ¬ Taken s.takeNl.nfts s.takeNl := (not_taken_iff _ _).mpr hfree
  refine ⟨_, ?_, ?_, rfl⟩
  · rw [exec_nlr_of_offered hoff, sendPacket_running hfree', inc_eq]
    rfl
  · rw [inc_eq]
    exact credit_setNfts_succ hcredit

/-! ### FRAME_ARRIVAL of ACK and NAK -/

/-- 43 R178. -/
theorem exec_faAck_of_arriving {s : State} {f : FrameWord} (h : s.arriving .ack = some f) :
    exec .faAck s = .next (ackProcess f.ack s.takeRx) := by
  simp only [exec, execFaAck, h, Flow.outcome_eq, Flow.state_running]

/-- Settles O34. -/
theorem ackFrameAcknowledges : Obligations.AckFrameAcknowledges := by
  unfold Obligations.AckFrameAcknowledges
  refine ⟨decode_eq_iff_kindMask (i := .faAck) rfl, fun s f hctl hrx hkind => ?_⟩
  refine ⟨arbitrate_frame hctl hrx hkind, _,
    exec_faAck_of_arriving ((arriving_iff _ _ _).mpr ⟨hctl, hrx, hkind⟩), ?_⟩
  exact ackProcess_effect f.ack s.takeRx

/-- 43 R179: where the resend goes through, the acknowledgement is processed after it. -/
theorem exec_faNak_of_resend {s t : State} {f : FrameWord} (h : s.arriving .nak = some f)
    (hsend : resendRequested f.ack s.takeRx = .running t) :
    exec .faNak s = .next (ackProcess f.ack t) := by
  simp only [exec, execFaNak, h, hsend, Flow.andThen_running, Flow.outcome_eq, Flow.state_running]

/-- The premises of R180 follow from the invariant. -/
theorem outstanding_held_and_free_of_inv {s : State} {q : Seq} (hinv : EngineInv s)
    (hout : between s.ae q s.nfts = true) : (s.outBuf.read (slot q)).isSome = true ∧
      ((s.rtx.get (slot q)).live = true → (s.rtx.get (slot q)).tag = q) :=
  ⟨hinv.outstandingHeld q hout, fun _ => (hinv.outstandingLive q hout).2⟩

/-- Settles O35, by whether the requested frame is outstanding. -/
theorem nakFrameResendsTheRequestedFrame : Obligations.NakFrameResendsTheRequestedFrame := by
  unfold Obligations.NakFrameResendsTheRequestedFrame
  refine ⟨decode_eq_iff_kindMask (i := .faNak) rfl, fun s f hctl hrx hkind => ?_⟩
  have harr : s.arriving .nak = some f := (arriving_iff _ _ _).mpr ⟨hctl, hrx, hkind⟩
  rw [inc_eq]
  refine ⟨arbitrate_frame hctl hrx hkind, outstanding_held_and_free_of_inv, ?_, ?_⟩
  · intro hout
    have hsend : resendRequested f.ack s.takeRx = .running s.takeRx := by
      rw [resendRequested_eq, if_neg (by simp [hout])]
    exact ⟨_, exec_faNak_of_resend harr hsend, ackProcess_effect f.ack s.takeRx⟩
  · intro hout p hread hfree
    have hfree' : ¬ Taken (f.ack + 1#3) s.takeRx := (not_taken_iff _ _).mpr hfree
    have hsend : resendRequested f.ack s.takeRx = sendData (f.ack + 1#3) s.takeRx := by
      rw [resendRequested_eq]
      exact if_pos hout
    rw [sendData_running (s := s.takeRx) hread hfree'] at hsend
    refine ⟨_, exec_faNak_of_resend harr hsend, ?_⟩
    exact ackProcess_effect f.ack _

/-! ### FRAME_ARRIVAL of DATA -/

/-- 43 R174, R182: the decision about a NAK, acceptance with the drain, and the acknowledgement. -/
theorem exec_faData_of_accept {s u v : State} {f : FrameWord} (h : s.arriving .data = some f)
    (hdecide : nakOrDelay f s.takeRx = .running u) (haccept : acceptFrame f u = .running v) :
    exec .faData s = .next (ackProcess f.ack v) := by
  simp only [exec, execFaData, h, hdecide, haccept, Flow.andThen_running, Flow.outcome_eq,
    Flow.state_running]

/-- The state in which acceptance begins, `nak` saying whether a NAK was sent (43 R175). -/
def afterDecision (nak : Bool) (s : State) : State :=
  { s with
    rx := none
    noNak := if nak then false else s.noNak
    ackt := if nak then AckTimer.idle else AckTimer.started s.timeouts
    out := [.takeRx] ++ (if nak then [.tx (controlFrame .nak 0 s).toWord] else []) }

theorem nakOrDelay_takeRx {f : FrameWord} {s : State} {nak : Bool}
    (hnak : nak = true ↔ f.seq ≠ s.fe ∧ s.noNak = true) :
    nakOrDelay f s.takeRx = .running (afterDecision nak s) := by
  rw [nakOrDelay_eq]
  cases nak with
  | true => rw [if_pos (show f.seq ≠ s.takeRx.fe ∧ s.takeRx.noNak = true from hnak.mp rfl)]; rfl
  | false =>
    rw [if_neg (show ¬ (f.seq ≠ s.takeRx.fe ∧ s.takeRx.noNak = true) from
      fun hc => Bool.false_ne_true (hnak.mpr hc))]
    rfl

/-- Acceptance and drain with one name for the buffer, the bitmap and the number of deliveries, whether
the frame is accepted or not (43 R176, R177). -/
theorem acceptFrame_eq_afterRun {f : FrameWord} {s : State} {buf : Memory} {arr : Quad Bool} {n : Nat}
    (hheld : ∀ e : Slot, s.arrived.get e = true → (s.inBuf.read e).isSome = true)
    (hcase : (Accepted f s ∧ buf = s.inBuf.write (slot f.seq) f.payload ∧
        arr = s.arrived.set (slot f.seq) true ∧ n = runLength 4 arr s.fe) ∨
      (¬ Accepted f s ∧ buf = s.inBuf ∧ arr = s.arrived ∧ n = 0)) :
    acceptFrame f s = .running (afterRun n { s with inBuf := buf, arrived := arr }) := by
  rw [acceptFrame_eq f s hheld]
  rcases hcase with ⟨hacc, rfl, rfl, rfl⟩ | ⟨hacc, rfl, rfl, rfl⟩
  · rw [if_pos ((accepts_iff f s).mpr hacc)]
    rfl
  · rw [if_neg fun h => hacc ((accepts_iff f s).mp h), afterRun_zero]

/-- Settles O31: the decision leaves what acceptance reads, acceptance and drain leave what the
acknowledgement reads, and the effects add up. -/
theorem dataFrameIsAcceptedAndDrained : Obligations.DataFrameIsAcceptedAndDrained := by
  unfold Obligations.DataFrameIsAcceptedAndDrained
  refine ⟨decode_eq_iff_kindMask (i := .faData) rfl,
    fun s f hctl hrx hkind => arbitrate_frame hctl hrx hkind, ?_⟩
  intro s f hctl hrx hkind hheld nak buf arr n hnak hcase
  have haccept := acceptFrame_eq_afterRun (s := afterDecision nak s) hheld hcase
  refine ⟨_, exec_faData_of_accept ((arriving_iff _ _ _).mpr ⟨hctl, hrx, hkind⟩)
    (nakOrDelay_takeRx hnak) haccept, ?_⟩
  have hackt : (if 0 < n then AckTimer.started s.timeouts
      else if nak then AckTimer.idle else AckTimer.started s.timeouts) =
      if n = 0 ∧ nak = true then AckTimer.idle else AckTimer.started s.timeouts := by
    cases n <;> simp
  have hstate := ackProcess_effect f.ack
    (afterRun n { afterDecision nak s with inBuf := buf, arrived := arr })
  simp only [afterRun, afterDecision, hackt] at hstate ⊢
  exact hstate

end Sys2Proof.Machine
end

section
/-! SUPPORT. The outputs of one step (43_protocol_engine R190): a step's output list is read off a record
with one field for each kind of action, which holds the bounds by its shape. -/

namespace Sys2Proof.Machine

/-- The actions of one step by kind: what is consumed, the frame sent, the packets delivered, the credit
granted, the anomaly reported. -/
structure Actions where
  taken : List Output := []
  tx : Option FrameWord := none
  dl : List Packet := []
  gr : Option (BitVec 3) := none
  an : Option (BitVec 2) := none

/-- The output list in the order of 43 R190. -/
def Actions.outputs (a : Actions) : List Output :=
  a.taken ++ (a.tx.map Output.tx).toList ++ a.dl.map Output.deliver
    ++ (a.gr.map Output.grant).toList ++ (a.an.map Output.anomaly).toList

/-- Which actions 43 R190 allows the event `i` from state `s`. -/
structure Actions.Allowed (i : Instr) (s : State) (a : Actions) : Prop where
  taken : a.taken = [] ∨ a.taken = [.takeNl] ∨ a.taken = [.takeRx] := by simp
  tx : ∀ f, a.tx = some f →
    (f.kind = .data ∧ (i = .nlr ∨ i = .faNak ∨ ∃ q, i = .timeout q)) ∨
    (f.kind = .nak ∧ (i = .cksum ∨ i = .faData ∧ ∃ g, s.rx = some (.frame g) ∧ g.seq ≠ s.fe)) ∨
    (f.kind = .ack ∧ i = .ackto) := by simp
  dl_length : a.dl.length ≤ Config.nrBufs := by simp
  dl : a.dl ≠ [] → i = .faData := by simp
  gr : a.gr ≠ none → i = .faData ∨ i = .faAck ∨ i = .faNak := by simp
  gr_units : WindowOk s → ∀ n, a.gr = some n → 1 ≤ n.toNat ∧ n.toNat ≤ Config.nrBufs := by simp
  an : a.an ≠ none → a.tx = none ∧ a.dl = [] ∧ a.gr = none := by simp

/-! ### What the shared operations emit -/

@[simp] theorem dataFrame_kind (nr : Seq) (p : Packet) (s : State) :
    (dataFrame nr p s).kind = .data := rfl

@[simp] theorem controlFrame_kind (k : SendKind) (nr : Seq) (s : State) :
    (controlFrame k nr s).kind = sentKind k := rfl

/-- `send_frame(DATA)` transmits at most one frame, of kind DATA, whether it faults or not. -/
theorem sendData_outputs (nr : Seq) (s : State) :
    ∃ tx : Option FrameWord, (sendData nr s).state.out = s.out ++ (tx.map Output.tx).toList ∧
      ∀ f, tx = some f → f.kind = .data := by
  rcases sendData_cases nr s with ⟨_, hsend⟩ | ⟨p, _, _, hsend⟩ | ⟨p, _, _, hsend⟩
  · exact ⟨none, by simp [hsend], by simp⟩
  · exact ⟨some (dataFrame nr p s).toWord, by simp [hsend], by simp⟩
  · exact ⟨some (dataFrame nr p s).toWord, by simp [hsend, cancelAckDelay], by simp⟩

/-- `send_frame(DATA)` leaves the send window alone. -/
theorem sendData_window (nr : Seq) (s : State) :
    (sendData nr s).state.ae = s.ae ∧ (sendData nr s).state.nfts = s.nfts := by
  rcases sendData_cases nr s with ⟨_, hsend⟩ | ⟨p, _, _, hsend⟩ | ⟨p, _, _, hsend⟩ <;>
    simp [hsend, cancelAckDelay]

theorem resendRequested_outputs (a : Seq) (s : State) :
    ∃ tx : Option FrameWord, (resendRequested a s).state.out = s.out ++ (tx.map Output.tx).toList ∧
      ∀ f, tx = some f → f.kind = .data := by
  rw [resendRequested_eq]
  split
  · exact sendData_outputs _ _
  · exact ⟨none, by simp, by simp⟩

theorem resendRequested_window (a : Seq) (s : State) :
    (resendRequested a s).state.ae = s.ae ∧ (resendRequested a s).state.nfts = s.nfts := by
  rw [resendRequested_eq]
  split
  · exact sendData_window _ _
  · exact ⟨rfl, rfl⟩

/-- The drain loop emits one delivery an iteration, faulting or not (43 R177). -/
theorem drain_outputs (k : Nat) (s : State) :
    ∃ dl : List Packet, (drain k s).state.out = s.out ++ dl.map Output.deliver ∧ dl.length ≤ k := by
  induction k generalizing s with
  | zero => exact ⟨[], by simp [drain], Nat.le_refl _⟩
  | succ k ih =>
    simp only [drain]
    split
    · cases hread : s.inBuf.read (slot s.fe) with
      | none => exact ⟨[], by simp [withSlot_none _ _ hread], Nat.zero_le _⟩
      | some p =>
        obtain ⟨dl, hout, hlen⟩ := ih (deliverOne p s)
        refine ⟨p :: dl, ?_, Nat.succ_le_succ hlen⟩
        rw [withSlot_some _ _ hread, hout, deliverOne_eq]
        simp
    · exact ⟨[], by simp, Nat.zero_le _⟩

/-- The drain loop leaves the send window alone. -/
theorem drain_window (k : Nat) (s : State) :
    (drain k s).state.ae = s.ae ∧ (drain k s).state.nfts = s.nfts :=
  drain_induct (P := fun t => t.ae = s.ae ∧ t.nfts = s.nfts)
    (fun _ _ _ _ h => h) (fun _ _ _ h => h) k s ⟨rfl, rfl⟩

theorem acceptFrame_outputs (f : FrameWord) (s : State) :
    ∃ dl : List Packet, (acceptFrame f s).state.out = s.out ++ dl.map Output.deliver ∧
      dl.length ≤ Config.nrBufs := by
  simp only [acceptFrame]
  split
  · exact drain_outputs Config.nrBufs (storeArrived f s)
  · exact ⟨[], by simp, Nat.zero_le _⟩

theorem acceptFrame_window (f : FrameWord) (s : State) :
    (acceptFrame f s).state.ae = s.ae ∧ (acceptFrame f s).state.nfts = s.nfts := by
  simp only [acceptFrame]
  split
  · exact drain_window Config.nrBufs (storeArrived f s)
  · exact ⟨rfl, rfl⟩

/-- The decision about a NAK emits at most that NAK, and only for a frame out of order (43 R175). -/
theorem nakOrDelay_outputs {f : FrameWord} {s u : State} (h : nakOrDelay f s = .running u) :
    (∃ tx : Option FrameWord, u.out = s.out ++ (tx.map Output.tx).toList ∧
      ∀ g, tx = some g → g.kind = .nak ∧ f.seq ≠ s.fe) ∧ u.ae = s.ae ∧ u.nfts = s.nfts := by
  rw [nakOrDelay_eq, Flow.running.injEq] at h
  subst h
  split
  · next hnak =>
    exact ⟨⟨some (controlFrame .nak 0 s).toWord, rfl, by simp [sentKind, hnak.1]⟩, rfl, rfl⟩
  · exact ⟨⟨none, by simp, by simp⟩, rfl, rfl⟩

/-- A window of at most 4 outstanding frames grants 1 to 4 units at once (43 R184). -/
theorem grant_units_bounds {ae a nfts : Seq} (h : between ae a nfts = true)
    (hwindow : seqDiff nfts ae ≤ Config.nrBufs) :
    1 ≤ (BitVec.ofNat 3 (seqDiff a ae + 1)).toNat ∧
      (BitVec.ofNat 3 (seqDiff a ae + 1)).toNat ≤ Config.nrBufs := by
  have hlt : seqDiff a ae < seqDiff nfts ae := (between_iff_seqDiff ae a nfts).mp h
  have hle : seqDiff a ae + 1 ≤ 4 := Nat.le_trans hlt hwindow
  rw [BitVec.toNat_ofNat, Nat.mod_eq_of_lt (Nat.lt_of_le_of_lt hle (by decide))]
  exact ⟨Nat.succ_pos _, hle⟩

/-- Acknowledgement processing emits at most one grant (43 R184). -/
theorem ackProcess_outputs (a : Seq) (s : State) :
    ∃ gr : Option (BitVec 3), (ackProcess a s).out = s.out ++ (gr.map Output.grant).toList ∧
      (WindowOk s → ∀ n, gr = some n → 1 ≤ n.toNat ∧ n.toNat ≤ Config.nrBufs) := by
  have hout := (ackProcess_effect a s).out
  by_cases h : between s.ae a s.nfts = true
  · rw [if_pos h] at hout
    refine ⟨some (BitVec.ofNat 3 (seqDiff a s.ae + 1)), hout, fun hwindow n hn => ?_⟩
    cases hn
    exact grant_units_bounds h hwindow
  · rw [if_neg h] at hout
    exact ⟨none, by simp [hout], by simp⟩

theorem windowOk_congr {s u : State} (hwindow : u.ae = s.ae ∧ u.nfts = s.nfts) (h : WindowOk s) :
    WindowOk u := by
  obtain ⟨hae, hnfts⟩ := hwindow
  rw [WindowOk, State.nout, hae, hnfts]
  exact h

/-! ### What each event emits -/

/-- What a step of `i` from `s` may emit. -/
def Emits (i : Instr) (s t : State) : Prop := ∃ a : Actions, t.out = a.outputs ∧ a.Allowed i s

theorem exec_nlr_emits {s t : State} (h : exec .nlr s = .next t) : Emits .nlr s t := by
  obtain ⟨p, _, rfl⟩ := exec_nlr_next h
  refine ⟨{ taken := [.takeNl], tx := some (dataFrame s.nfts p s).toWord }, ?_, { }⟩
  by_cases htaken : Taken s.takeNl.nfts s.takeNl
  · rw [sendPacket_ended htaken]
    rfl
  · rw [sendPacket_running htaken]
    rfl

theorem exec_faData_emits {s t : State} (h : exec .faData s = .next t) : Emits .faData s t := by
  obtain ⟨f, u, harr, hdecide, htail⟩ := exec_faData_next h
  obtain ⟨_, hrx, _⟩ := (arriving_iff _ _ _).mp harr
  obtain ⟨⟨tx, hutx, hnak⟩, huwindow⟩ := nakOrDelay_outputs hdecide
  obtain ⟨dl, hvdl, hlen⟩ := acceptFrame_outputs f u
  have hvwindow := acceptFrame_window f u
  have htx : ∀ g, tx = some g → g.kind = .nak ∧ ∃ f, s.rx = some (.frame f) ∧ f.seq ≠ s.fe :=
    fun g hg => ⟨(hnak g hg).1, f, hrx, (hnak g hg).2⟩
  rcases htail with ⟨v, haccept, rfl⟩ | haccept
  · rw [haccept, Flow.state_running] at hvdl hvwindow
    obtain ⟨gr, hgr, hunits⟩ := ackProcess_outputs f.ack v
    refine ⟨{ taken := [.takeRx], tx := tx, dl := dl, gr := gr }, ?_,
      { tx := fun g hg => .inr (.inl ⟨(htx g hg).1, .inr ⟨rfl, (htx g hg).2⟩⟩)
        dl_length := hlen
        gr_units := fun hw => hunits (windowOk_congr hvwindow (windowOk_congr huwindow hw)) }⟩
    rw [hgr, hvdl, hutx]
    simp [Actions.outputs]
  · rw [haccept, Flow.state_ended] at hvdl
    refine ⟨{ taken := [.takeRx], tx := tx, dl := dl }, ?_,
      { tx := fun g hg => .inr (.inl ⟨(htx g hg).1, .inr ⟨rfl, (htx g hg).2⟩⟩)
        dl_length := hlen }⟩
    rw [hvdl, hutx]
    simp [Actions.outputs]

theorem exec_faAck_emits {s t : State} (h : exec .faAck s = .next t) : Emits .faAck s t := by
  obtain ⟨f, _, rfl⟩ := exec_faAck_next h
  obtain ⟨gr, hgr, hunits⟩ := ackProcess_outputs f.ack s.takeRx
  refine ⟨{ taken := [.takeRx], gr := gr }, ?_, { gr_units := hunits }⟩
  rw [hgr]
  simp [Actions.outputs]

theorem exec_faNak_emits {s t : State} (h : exec .faNak s = .next t) : Emits .faNak s t := by
  obtain ⟨f, _, htail⟩ := exec_faNak_next h
  obtain ⟨tx, hvtx, hdata⟩ := resendRequested_outputs f.ack s.takeRx
  have hvwindow := resendRequested_window f.ack s.takeRx
  rcases htail with ⟨v, hsend, rfl⟩ | hsend
  · rw [hsend, Flow.state_running] at hvtx hvwindow
    obtain ⟨gr, hgr, hunits⟩ := ackProcess_outputs f.ack v
    refine ⟨{ taken := [.takeRx], tx := tx, gr := gr }, ?_,
      { tx := fun g hg => .inl ⟨hdata g hg, by simp⟩
        gr_units := fun hw => hunits (windowOk_congr hvwindow hw) }⟩
    rw [hgr, hvtx]
    simp [Actions.outputs]
  · rw [hsend, Flow.state_ended] at hvtx
    refine ⟨{ taken := [.takeRx], tx := tx }, ?_,
      { tx := fun g hg => .inl ⟨hdata g hg, by simp⟩ }⟩
    rw [hvtx]
    simp [Actions.outputs]

theorem exec_faRsvd_emits {s t : State} (h : exec .faRsvd s = .next t) : Emits .faRsvd s t := by
  obtain ⟨f, _, rfl⟩ := exec_faRsvd_next h
  exact ⟨{ taken := [.takeRx], an := some AnomalyCause.rsvdKind.code }, rfl, { }⟩

theorem exec_cksum_emits {s t : State} (h : exec .cksum s = .next t) : Emits .cksum s t := by
  obtain ⟨_, rfl⟩ := exec_cksum_next h
  split
  · exact ⟨{ taken := [.takeRx], tx := some (controlFrame .nak 0 s).toWord }, rfl,
      { tx := by simp [sentKind] }⟩
  · exact ⟨{ taken := [.takeRx] }, rfl, { }⟩

theorem exec_timeout_emits {q : Seq} {s t : State} (h : exec (.timeout q) s = .next t) :
    Emits (.timeout q) s t := by
  obtain ⟨_, _, rfl⟩ := exec_timeout_next h
  obtain ⟨tx, htx, hdata⟩ := sendData_outputs q (consumeTimeout s.sel s.begin)
  refine ⟨{ tx := tx }, ?_, { tx := fun g hg => .inl ⟨hdata g hg, by simp⟩ }⟩
  rw [htx]
  simp [Actions.outputs, consumeTimeout]

theorem exec_ackto_emits {s t : State} (h : exec .ackto s = .next t) : Emits .ackto s t := by
  obtain ⟨_, rfl⟩ := exec_ackto_next h
  exact ⟨{ tx := some (controlFrame .ack 0 s).toWord }, rfl, { tx := by simp [sentKind] }⟩

theorem unrecognizedEvent_emits {s t : State} (i : Instr) (h : unrecognizedEvent s = .next t) :
    Emits i s t := by
  obtain ⟨_, rfl⟩ := unrecognizedEvent_next h
  exact ⟨{ an := some AnomalyCause.unrecognizedEvent.code }, rfl, { }⟩

theorem exec_emits {i : Instr} {s t : State} (h : exec i s = .next t) : Emits i s t := by
  cases i with
  | nlr => exact exec_nlr_emits h
  | faData => exact exec_faData_emits h
  | faAck => exact exec_faAck_emits h
  | faNak => exact exec_faNak_emits h
  | faRsvd => exact exec_faRsvd_emits h
  | cksum => exact exec_cksum_emits h
  | timeout q => exact exec_timeout_emits h
  | ackto => exact exec_ackto_emits h
  | rsvd5 => exact unrecognizedEvent_emits _ h
  | rsvd6 => exact unrecognizedEvent_emits _ h
  | rsvd7 => exact unrecognizedEvent_emits _ h

/-! ### The bounds -/

/-- An optional action is a list of at most one output, each of its form. -/
theorem toList_map_bounds {α : Type} (x : Option α) (mk : α → Output) (is : Output → Bool)
    (his : ∀ v, is (mk v) = true) :
    (x.map mk).toList.length ≤ 1 ∧ ∀ o ∈ (x.map mk).toList, is o = true := by
  cases x with
  | none => simp
  | some v => simp [his]

/-- A grant among the outputs of allowed actions is their grant. -/
theorem Actions.Allowed.gr_of_mem {i : Instr} {s : State} {a : Actions} (h : a.Allowed i s)
    {n : BitVec 3} (hn : Output.grant n ∈ a.outputs) : a.gr = some n := by
  have htaken : Output.grant n ∉ a.taken := by
    rcases h.taken with ht | ht | ht <;> simp [ht]
  simpa [Actions.outputs, htaken] using hn

/-- Settles O46: the actions by kind give the five lists. -/
theorem outputBoundsAndOrder : Obligations.OutputBoundsAndOrder := by
  unfold Obligations.OutputBoundsAndOrder
  intro i s t h
  obtain ⟨a, hout, hall⟩ := exec_emits h
  obtain ⟨htxlen, htxis⟩ := toList_map_bounds a.tx Output.tx Output.isTx fun _ => rfl
  obtain ⟨hgrlen, hgris⟩ := toList_map_bounds a.gr Output.grant Output.isGrant fun _ => rfl
  obtain ⟨hanlen, hanis⟩ := toList_map_bounds a.an Output.anomaly Output.isAnomaly fun _ => rfl
  refine ⟨⟨a.taken, (a.tx.map Output.tx).toList, a.dl.map Output.deliver,
    (a.gr.map Output.grant).toList, (a.an.map Output.anomaly).toList, hout, hall.taken,
    htxlen, htxis, fun f hf => hall.tx f (by simpa using hf),
    by simpa using hall.dl_length, by simp [Output.isDeliver], fun hd => hall.dl (by simpa using hd),
    hgrlen, hgris, fun hg => hall.gr (by simpa using hg),
    hanlen, hanis, fun ha => by simpa using hall.an (by simpa using ha)⟩, fun hw n hn => ?_⟩
  exact hall.gr_units hw n (hall.gr_of_mem (hout ▸ hn))

end Sys2Proof.Machine
end

section
/-! SUPPORT. Reset from any state (70_reset R240), and the window arithmetic that every step keeps
(70_reset R243): acknowledgements shrink the send window, only NETWORK_LAYER_READY extends it, and no
other event touches it. -/

namespace Sys2Proof.Machine

/-! ### Reset -/

/-- The agenda's next move is the one a step makes (00_scope R13). -/
theorem step_of_agenda {s : State} {m : Move} {rest : List Move} (h : s.agenda = m :: rest) :
    step s = makeMove m (s.setAgenda rest) := by
  simp only [step, agentStep, h]

/-- Settles O17: a reset reads nothing but the ports, the timeouts and the model's own fields. -/
theorem resetRestoresEverythingButThePorts : Obligations.ResetRestoresEverythingButThePorts := by
  unfold Obligations.ResetRestoresEverythingButThePorts
  intro s rest hagenda
  calc step s
    _ = makeMove .rst (s.setAgenda rest) := step_of_agenda hagenda
    _ = .next (s.setAgenda rest).applyReset := rfl

/-! ### The send window under acknowledgement -/

/-- Acknowledging up to an outstanding number leaves no more outstanding than before. -/
theorem seqDiff_acked_le {ae a nfts : Seq} (h : between ae a nfts = true) :
    seqDiff nfts (a + 1#3) ≤ seqDiff nfts ae := by
  revert ae a nfts
  decide

theorem ackProcess_nfts (a : Seq) (s : State) : (ackProcess a s).nfts = s.nfts := by
  rw [(ackProcess_effect a s).frame]

theorem ackProcess_nout_le (a : Seq) (s : State) : (ackProcess a s).nout ≤ s.nout := by
  rw [State.nout, ackProcess_nfts, (ackProcess_effect a s).ae]
  split
  · next hout => exact seqDiff_acked_le hout
  · exact Nat.le_refl _

theorem ackProcess_windowOk {s : State} (a : Seq) (h : WindowOk s) : WindowOk (ackProcess a s) :=
  Nat.le_trans (ackProcess_nout_le a s) h

/-- A handler that processes the acknowledgement last keeps the window if what comes before it does,
whether that goes through or faults. -/
theorem windowOk_of_ack_last {f : Flow} {a : Seq} {t : State} (h : WindowOk f.state)
    (htail : (∃ v, f = .running v ∧ t = ackProcess a v) ∨ f = .ended t) : WindowOk t := by
  rcases htail with ⟨v, rfl, rfl⟩ | rfl
  · exact ackProcess_windowOk a h
  · exact h

/-! ### What each event does to the window -/

theorem takeRx_windowOk {s : State} (h : WindowOk s) : WindowOk s.takeRx :=
  windowOk_congr (s := s) ⟨rfl, rfl⟩ h

theorem raiseAnomaly_windowOk {s : State} (c : AnomalyCause) (h : WindowOk s) :
    WindowOk (s.raiseAnomaly c) :=
  windowOk_congr ⟨State.raiseAnomaly_ae c s, State.raiseAnomaly_nfts c s⟩ h

/-- NETWORK_LAYER_READY runs only with credit, so the one number it adds fits. -/
theorem exec_nlr_windowOk {s t : State} (hw : WindowOk s) (h : exec .nlr s = .next t) :
    WindowOk t := by
  obtain ⟨p, hoff, rfl⟩ := exec_nlr_next h
  obtain ⟨_, hroom, _⟩ := (offered_iff s p).mp hoff
  by_cases htaken : Taken s.takeNl.nfts s.takeNl
  · rw [sendPacket_ended htaken]
    exact windowOk_congr (s := s) ⟨rfl, rfl⟩ hw
  · rw [sendPacket_running htaken]
    calc seqDiff (s.nfts + 1#3) s.ae
      _ = s.nout + 1 := seqDiff_inc_left hroom
      _ ≤ Config.nrBufs := hroom

theorem exec_faData_windowOk {s t : State} (hw : WindowOk s) (h : exec .faData s = .next t) :
    WindowOk t := by
  obtain ⟨f, u, _, hdecide, htail⟩ := exec_faData_next h
  obtain ⟨_, hdecided⟩ := nakOrDelay_outputs hdecide
  have haccept : WindowOk (acceptFrame f u).state :=
    windowOk_congr (acceptFrame_window f u) (windowOk_congr hdecided (takeRx_windowOk hw))
  exact windowOk_of_ack_last haccept htail

theorem exec_faAck_windowOk {s t : State} (hw : WindowOk s) (h : exec .faAck s = .next t) :
    WindowOk t := by
  obtain ⟨f, _, rfl⟩ := exec_faAck_next h
  exact ackProcess_windowOk f.ack (takeRx_windowOk hw)

theorem exec_faNak_windowOk {s t : State} (hw : WindowOk s) (h : exec .faNak s = .next t) :
    WindowOk t := by
  obtain ⟨f, _, htail⟩ := exec_faNak_next h
  have hresend : WindowOk (resendRequested f.ack s.takeRx).state :=
    windowOk_congr (resendRequested_window f.ack s.takeRx) (takeRx_windowOk hw)
  exact windowOk_of_ack_last hresend htail

theorem exec_faRsvd_windowOk {s t : State} (hw : WindowOk s) (h : exec .faRsvd s = .next t) :
    WindowOk t := by
  obtain ⟨f, _, rfl⟩ := exec_faRsvd_next h
  exact raiseAnomaly_windowOk _ (takeRx_windowOk hw)

theorem exec_cksum_windowOk {s t : State} (hw : WindowOk s) (h : exec .cksum s = .next t) :
    WindowOk t := by
  obtain ⟨_, rfl⟩ := exec_cksum_next h
  split <;> exact windowOk_congr (s := s) ⟨rfl, rfl⟩ hw

theorem exec_timeout_windowOk {q : Seq} {s t : State} (hw : WindowOk s)
    (h : exec (.timeout q) s = .next t) : WindowOk t := by
  obtain ⟨_, _, rfl⟩ := exec_timeout_next h
  have hconsumed : WindowOk (consumeTimeout s.sel s.begin) := windowOk_congr (s := s) ⟨rfl, rfl⟩ hw
  exact windowOk_congr (sendData_window q _) hconsumed

theorem exec_ackto_windowOk {s t : State} (hw : WindowOk s) (h : exec .ackto s = .next t) :
    WindowOk t := by
  obtain ⟨_, rfl⟩ := exec_ackto_next h
  exact windowOk_congr (s := s) ⟨rfl, rfl⟩ hw

theorem unrecognizedEvent_windowOk {s t : State} (hw : WindowOk s)
    (h : unrecognizedEvent s = .next t) : WindowOk t := by
  obtain ⟨_, rfl⟩ := unrecognizedEvent_next h
  have hbegin : WindowOk s.begin := windowOk_congr (s := s) ⟨rfl, rfl⟩ hw
  exact raiseAnomaly_windowOk _ hbegin

theorem exec_windowOk {i : Instr} {s t : State} (hw : WindowOk s) (h : exec i s = .next t) :
    WindowOk t := by
  cases i with
  | nlr => exact exec_nlr_windowOk hw h
  | faData => exact exec_faData_windowOk hw h
  | faAck => exact exec_faAck_windowOk hw h
  | faNak => exact exec_faNak_windowOk hw h
  | faRsvd => exact exec_faRsvd_windowOk hw h
  | cksum => exact exec_cksum_windowOk hw h
  | timeout q => exact exec_timeout_windowOk hw h
  | ackto => exact exec_ackto_windowOk hw h
  | rsvd5 => exact unrecognizedEvent_windowOk hw h
  | rsvd6 => exact unrecognizedEvent_windowOk hw h
  | rsvd7 => exact unrecognizedEvent_windowOk hw h

/-! ### Moves and steps -/

/-- 70 R243(a): nothing is outstanding right after reset. -/
theorem State.resetWith_windowOk (c : Timeouts) : WindowOk (State.resetWith c) := by
  rw [WindowOk, State.resetWith_nout]
  exact Nat.zero_le _

theorem makeMove_windowOk {m : Move} {s t : State} (hw : WindowOk s) (h : makeMove m s = .next t) :
    WindowOk t := by
  rcases makeMove_cases h with ⟨i, e, hexec⟩ | rfl | rfl | ⟨p, _, _, rfl⟩ | ⟨x, _, _, rfl⟩
  · have hsel : WindowOk (s.setSel e) := windowOk_congr (s := s) ⟨rfl, rfl⟩ hw
    exact exec_windowOk hsel hexec
  · exact windowOk_congr (s := s) ⟨rfl, rfl⟩ hw
  · exact State.resetWith_windowOk s.timeouts
  · exact windowOk_congr (s := s) ⟨rfl, rfl⟩ hw
  · exact windowOk_congr (s := s) ⟨rfl, rfl⟩ hw

theorem step_windowOk {s t : State} (hw : WindowOk s) (h : step s = .next t) : WindowOk t := by
  rcases step_cases h with ⟨m, rest, _, hmove⟩ | ⟨_, m, _, hmove⟩ | ⟨_, rfl⟩
  · have hagenda : WindowOk (s.setAgenda rest) := windowOk_congr (s := s) ⟨rfl, rfl⟩ hw
    exact makeMove_windowOk hagenda hmove
  · have hturn : WindowOk (s.setTurn (s.turn + 1)) := windowOk_congr (s := s) ⟨rfl, rfl⟩ hw
    exact makeMove_windowOk hturn hmove
  · exact windowOk_congr (s := s) ⟨rfl, rfl⟩ hw

/-! ### The receive window and the credit -/

/-- 70 R243(b). -/
theorem seqDiff_tf_fe (s : State) : seqDiff s.tf s.fe = Config.nrBufs := by
  rw [tf_eq]
  exact seqDiff_add_left s.fe (k := 4) (by decide)

/-- 70 R243(c). -/
theorem credit_add_nout {s : State} (h : WindowOk s) : s.credit + s.nout = Config.nrBufs :=
  Nat.sub_add_cancel h

/-- Settles O56: the base case, the step lemma, and the two derived equalities. -/
theorem stepKeepsTheWindow : Obligations.StepKeepsTheWindow := by
  unfold Obligations.StepKeepsTheWindow
  exact ⟨State.resetWith_windowOk Config.timeouts, fun _ _ => step_windowOk,
    fun s => ⟨rfl, seqDiff_tf_fe s, credit_add_nout⟩⟩

end Sys2Proof.Machine
end

section
/-! SUPPORT. The encodings read back (30_encoding R71 to R79): the table word of an instruction, which
words are encodings, and the header of a frame. -/

namespace Sys2Proof

/-! ### The bytes of an instruction -/

/-- An 8-bit table word is its one byte. -/
theorem tableBytes_byte (ev : BitVec 8) : tableBytes 8 ev.toNat = [ev] := by
  have hbyte : BitVec.ofNat 8 (ev.toNat % 2 ^ 8 / 256 ^ 0) = ev := by
    rw [Nat.mod_eq_of_lt ev.isLt, Nat.pow_zero, Nat.div_one, BitVec.ofNat_toNat, BitVec.setWidth_eq]
  rw [← hbyte]
  simp [tableBytes]

theorem decodeTableWord_byte (ev : BitVec 8) : decodeTableWord 8 ev.toNat = some (decode ev) := by
  rw [decodeTableWord, tableBytes_byte]
  rfl

/-! ### Which words are encodings -/

/-- An encoding has a frame kind in FRAME_ARRIVAL words only (R73). -/
theorem fkind_encode_of_ne {i : Instr} (h : etype (encode i) ≠ 0b001#3) : fkind (encode i) = 0#2 := by
  cases i with
  | timeout q => exact fkind_dispatchWord ..
  | faData | faAck | faNak | faRsvd => exact absurd rfl h
  | _ => rfl

/-- An encoding has a number in TIMEOUT words only (R75). -/
theorem arg_encode_of_ne {i : Instr} (h : etype (encode i) ≠ 0b011#3) : arg (encode i) = 0#3 := by
  cases i with
  | timeout q => exact absurd (etype_dispatchWord ..) h
  | _ => rfl

/-- Words with the same fields are the same. -/
theorem eq_of_fields {ev ev' : BitVec 8} (htype : etype ev = etype ev') (hkind : fkind ev = fkind ev')
    (harg : arg ev = arg ev') : ev = ev' := by
  rw [← dispatchWord_fields ev, ← dispatchWord_fields ev', htype, hkind, harg]

/-- A word is the encoding of what it decodes to when the fields that the decoder drops are 0. -/
theorem encode_decode_eq_iff (ev : BitVec 8) :
    encode (decode ev) = ev ↔
      (etype ev ≠ 0b001#3 → fkind ev = 0#2) ∧ (etype ev ≠ 0b011#3 → arg ev = 0#3) := by
  have htype := etype_encode_decode ev
  constructor
  · intro h
    have hkind := fkind_encode_of_ne (i := decode ev)
    have harg := arg_encode_of_ne (i := decode ev)
    rw [h] at hkind harg
    exact ⟨hkind, harg⟩
  · rintro ⟨hkind, harg⟩
    refine eq_of_fields htype ?_ ?_
    · by_cases h : etype ev = 0b001#3
      · exact fkind_encode_decode h
      · rw [hkind h, fkind_encode_of_ne (by rwa [htype])]
    · by_cases h : etype ev = 0b011#3
      · exact arg_encode_decode h
      · rw [harg h, arg_encode_of_ne (by rwa [htype])]

/-- Settles O8: the bytes of an instruction are its one dispatch word, which decodes to it. -/
theorem decodeInvertsEncode : Obligations.DecodeInvertsEncode := by
  unfold Obligations.DecodeInvertsEncode
  refine ⟨fun i _ => ⟨fun rest => ?_, ?_⟩, encode_decode_eq_iff⟩
  · calc decodeBytes (encodeBytes i ++ rest)
      _ = .ok (decode (encode i), rest) := rfl
      _ = .ok (i, rest) := by rw [decode_encode]
  · rw [decodeTableWord_byte, decode_encode]

/-- Settles O7: each word is a closed one, which the decoder evaluates. -/
theorem writtenWordsDecode : Obligations.WrittenWordsDecode := by
  unfold Obligations.WrittenWordsDecode
  decide

/-! ### The header of a frame -/

/-- A header made of fields has its sequence number (30_encoding R76, R78). -/
@[simp] theorem seq_toWord (f : Frame) : f.toWord.seq = f.seq :=
  calc f.toWord.seq
    _ = (f.ack ++ f.seq).extractLsb' 0 3 := BitVec.extractLsb'_append_eq_of_le (Nat.le_refl 2)
    _ = f.seq := BitVec.extractLsb'_append_eq_right

/-- A header made of fields has its acknowledgement number (30_encoding R76, R78). -/
@[simp] theorem ack_toWord (f : Frame) : f.toWord.ack = f.ack :=
  calc f.toWord.ack
    _ = (f.ack ++ f.seq).extractLsb' 3 3 := BitVec.extractLsb'_append_eq_of_le (by decide : 2 ≤ 5)
    _ = f.ack.extractLsb' 0 3 := BitVec.extractLsb'_append_eq_of_le (Nat.le_refl 3)
    _ = f.ack := BitVec.extractLsb'_eq_self

@[simp] theorem toFrame_toWord (f : Frame) : f.toWord.toFrame = f := by
  simp only [FrameWord.toFrame, kind_toWord, seq_toWord, ack_toWord]
  rfl

/-- R76: the fields do not overlap. -/
theorem frameHeader_toNat (k : Kind) (seq ack : Seq) :
    (frameHeader k seq ack).toNat = ack.toNat * 32 + seq.toNat * 4 + k.code.toNat := by
  have hseq : ack.toNat <<< 3 + seq.toNat = ack.toNat <<< 3 ||| seq.toNat :=
    Nat.shiftLeft_add_eq_or_of_lt seq.isLt _
  have hcode := Nat.shiftLeft_add_eq_or_of_lt k.code.isLt (ack.toNat <<< 3 + seq.toNat)
  rw [frameHeader, BitVec.toNat_append, BitVec.toNat_append, ← hseq, ← hcode,
    Nat.shiftLeft_eq, Nat.shiftLeft_eq]
  omega

/-- A header is made of its own fields (R78). -/
theorem frameHeader_fields (w : FrameWord) : frameHeader w.kind w.seq w.ack = w.hdr := by
  rw [frameHeader, FrameWord.kind, code_kindOfCode, FrameWord.seq, FrameWord.ack,
    BitVec.extractLsb'_append_extractLsb'_eq_extractLsb' (by decide : 5 = 2 + 3),
    BitVec.extractLsb'_append_extractLsb'_eq_extractLsb' (by decide : 2 = 0 + 2)]
  exact BitVec.extractLsb'_eq_self

/-- Settles O9, from the header's fields one way and the other. -/
theorem frameWordRoundTrip : Obligations.FrameWordRoundTrip := by
  unfold Obligations.FrameWordRoundTrip
  refine ⟨fun f => ⟨toFrame_toWord f, frameHeader_toNat .., rfl, rfl⟩, fun w => ?_⟩
  rw [Frame.toWord, FrameWord.toFrame]
  simp only [frameHeader_fields]

end Sys2Proof
end

section
/-! SUPPORT. When an event may be taken (60_exceptions R226, R227): every handler runs exactly when its
event is ready, the arbiter forms the word of a ready event, and a step takes it. -/

namespace Sys2Proof.Machine

/-! ### The handlers run exactly when their event is ready -/

/-- The outcome is a next state where the condition holds, and the refusal where it does not. -/
def RunsWhen (cond : Prop) (o : Host.Outcome State Fault Refusal) : Prop :=
  (cond → ∃ t, o = .next t) ∧ (¬ cond → o = .refused .notEligible)

theorem RunsWhen.congr {c c' : Prop} {o : Host.Outcome State Fault Refusal} (hrun : RunsWhen c o)
    (h : c ↔ c') : RunsWhen c' o :=
  ⟨fun hc => hrun.1 (h.mpr hc), fun hc => hrun.2 fun hc' => hc (h.mp hc')⟩

theorem runsWhen_ite (cond : Prop) [Decidable cond] (f : Flow) :
    RunsWhen cond (if cond then f.outcome else .refused .notEligible) :=
  ⟨fun h => ⟨f.state, if_pos h⟩, fun h => if_neg h⟩

/-- A handler that needs a frame of some kind at the port needs the engine to wait, too. -/
theorem exists_arriving_iff (k : Kind) (s : State) :
    (∃ f, s.arriving k = some f) ↔ s.ctl = .wait ∧ ∃ f, s.rx = some (.frame f) ∧ f.kind = k := by
  simp only [arriving_iff, exists_and_left]

theorem exists_offered_iff (s : State) :
    (∃ p, s.offered = some p) ↔ s.ctl = .wait ∧ s.nl.isSome = true ∧ s.nout < Config.nrBufs := by
  simp only [offered_iff, exists_and_left, Option.isSome_iff_exists, and_comm (b := s.nout < _)]

theorem execNlr_runsWhen (s : State) : RunsWhen (∃ p, s.offered = some p) (execNlr s) := by
  rw [execNlr]
  cases s.offered <;> simp [RunsWhen]

theorem execFaData_runsWhen (s : State) :
    RunsWhen (∃ f, s.arriving .data = some f) (execFaData s) := by
  rw [execFaData]
  cases s.arriving .data <;> simp [RunsWhen]

theorem execFaAck_runsWhen (s : State) :
    RunsWhen (∃ f, s.arriving .ack = some f) (execFaAck s) := by
  rw [execFaAck]
  cases s.arriving .ack <;> simp [RunsWhen]

theorem execFaNak_runsWhen (s : State) :
    RunsWhen (∃ f, s.arriving .nak = some f) (execFaNak s) := by
  rw [execFaNak]
  cases s.arriving .nak <;> simp [RunsWhen]

theorem execFaRsvd_runsWhen (s : State) :
    RunsWhen (∃ f, s.arriving .rsvd = some f) (execFaRsvd s) := by
  rw [execFaRsvd]
  cases s.arriving .rsvd <;> simp [RunsWhen]

theorem execTimeout_runsWhen (q : Seq) (s : State) :
    RunsWhen (s.ctl = .wait ∧ (s.rtx.get s.sel).pending = true ∧ (s.rtx.get s.sel).tag = q)
      (execTimeout q s) := by
  rw [← and_assoc, ← expired_iff]
  exact runsWhen_ite _ _

/-- The three unrecognized events need only that the engine waits (43 R189). -/
theorem unrecognizedEvent_runsWhen (s : State) :
    RunsWhen (s.ctl = .wait ∧ True) (unrecognizedEvent s) := by
  rw [and_true]
  exact runsWhen_ite _ _

/-- 60 R226, for every instruction. -/
theorem exec_runsWhen_ready (i : Instr) (s : State) : RunsWhen (ready i s) (exec i s) := by
  cases i with
  | nlr => exact (execNlr_runsWhen s).congr (exists_offered_iff s)
  | faData => exact (execFaData_runsWhen s).congr (exists_arriving_iff .data s)
  | faAck => exact (execFaAck_runsWhen s).congr (exists_arriving_iff .ack s)
  | faNak => exact (execFaNak_runsWhen s).congr (exists_arriving_iff .nak s)
  | faRsvd => exact (execFaRsvd_runsWhen s).congr (exists_arriving_iff .rsvd s)
  | cksum => exact (runsWhen_ite _ _).congr (corrupted_iff s)
  | timeout q => exact execTimeout_runsWhen q s
  | ackto => exact (runsWhen_ite _ _).congr (ackDue_iff s)
  | rsvd5 => exact unrecognizedEvent_runsWhen s
  | rsvd6 => exact unrecognizedEvent_runsWhen s
  | rsvd7 => exact unrecognizedEvent_runsWhen s

/-- Settles O13. -/
theorem handlersRunExactlyWhenReady : Obligations.HandlersRunExactlyWhenReady := by
  unfold Obligations.HandlersRunExactlyWhenReady
  exact exec_runsWhen_ready

/-- Only a waiting engine takes an event. -/
theorem ctl_of_exec_next {i : Instr} {s t : State} (h : exec i s = .next t) : s.ctl = .wait := by
  by_contra hctl
  rw [(exec_runsWhen_ready i s).2 fun hready => hctl hready.1] at h
  cases h

/-! ### The arbiter -/

/-- The event of a frame of this kind (30_encoding R73). -/
def frameEvent : Kind → Instr
  | .data => .faData
  | .ack => .faAck
  | .nak => .faNak
  | .rsvd => .faRsvd

theorem encode_frameEvent (k : Kind) : encode (frameEvent k) = dispatchWord 0 k.code 0b001 := by
  cases k <;> rfl

theorem ready_frameEvent {k : Kind} {s : State} {f : FrameWord} (hctl : s.ctl = .wait)
    (hrx : s.rx = some (.frame f)) (hkind : f.kind = k) : ready (frameEvent k) s := by
  cases k <;> exact ⟨hctl, f, hrx, hkind⟩

/-- Is `i` the event of the source in this state, with `e` the slot it selects (60 R226)? -/
def SourceEvent (src : Source) (s : State) (e : Slot) (i : Instr) : Prop :=
  match src with
  | .upper => i = .nlr
  | .receive =>
    (s.rx = some .err ∧ i = .cksum) ∨ ∃ f, s.rx = some (.frame f) ∧ i = frameEvent f.kind
  | .retransmit d => e = d ∧ i = .timeout (s.rtx.get d).tag
  | .ackDelay => i = .ackto

/-- Everything the arbiter can form: the encoding of its source's event, which is ready. -/
theorem arbitrate_cases {src : Source} {s : State} {ev : BitVec 8} {e : Slot}
    (h : arbitrate src s = some (ev, e)) :
    ∃ i, ev = encode i ∧ SourceEvent src s e i ∧ ready i (s.setSel e) := by
  cases src with
  | upper =>
    simp only [arbitrate] at h
    split at h
    · next hoff =>
      cases h
      exact ⟨.nlr, rfl, rfl, (exists_offered_iff s).mp (Option.isSome_iff_exists.mp hoff)⟩
    · cases h
  | receive =>
    simp only [arbitrate] at h
    split at h
    · next f hctl hrx =>
      cases h
      refine ⟨frameEvent f.kind, ?_, .inr ⟨f, hrx, rfl⟩, ready_frameEvent hctl hrx rfl⟩
      rw [encode_frameEvent, FrameWord.kind, code_kindOfCode]
    · next hctl hrx => cases h; exact ⟨.cksum, rfl, .inl ⟨hrx, rfl⟩, hctl, hrx⟩
    · cases h
  | retransmit d =>
    simp only [arbitrate, expired_iff] at h
    split at h
    · next hready => cases h; exact ⟨.timeout _, rfl, ⟨rfl, rfl⟩, hready.1, hready.2, rfl⟩
    · cases h
  | ackDelay =>
    simp only [arbitrate, ackDue_iff] at h
    split at h
    · next hready => cases h; exact ⟨.ackto, rfl, rfl, hready⟩
    · cases h

/-- 30 R73, R75; 60 R227: an encoding with no reserved event type is a word the arbiter may form. -/
theorem arbiterFormed_encode {i : Instr} (h : (etype (encode i)).toNat ≤ 4) :
    arbiterFormed (encode i) = true := by
  simp only [arbiterFormed, Bool.and_eq_true, Bool.or_eq_true, beq_iff_eq, decide_eq_true_eq]
  exact ⟨⟨h, or_iff_not_imp_left.mpr fkind_encode_of_ne⟩, or_iff_not_imp_left.mpr arg_encode_of_ne⟩

/-- Settles O10: the word is the encoding of its source's event, and the handler of a ready event runs. -/
theorem arbiterFormsTheEventsWord : Obligations.ArbiterFormsTheEventsWord := by
  unfold Obligations.ArbiterFormsTheEventsWord
  intro src s ev e h
  have hle := etype_le_of_arbitrate h
  obtain ⟨i, rfl, hsource, hready⟩ := arbitrate_cases h
  rw [decode_encode]
  refine ⟨arbiterFormed_encode hle, ?_, (exec_runsWhen_ready i _).1 hready⟩
  cases src with
  | receive =>
    rcases hsource with herr | ⟨f, hrx, rfl⟩
    · exact .inl herr
    · refine .inr ⟨f, hrx, ?_⟩
      cases f.kind <;> rfl
  | _ => exact hsource

/-- Settles O12, source by source. -/
theorem eligibleExactlyWhenTheSourceHolds : Obligations.EligibleExactlyWhenTheSourceHolds := by
  unfold Obligations.EligibleExactlyWhenTheSourceHolds
  refine ⟨fun s src => ?_, fun s src rest hagenda hnot => ?_⟩
  · cases src with
    | upper =>
      rw [eligible, arbitrate, Option.isSome_ite, Option.isSome_iff_exists, exists_offered_iff,
        credit_pos_iff]
    | receive =>
      rw [eligible, arbitrate]
      cases s.ctl with
      | faulted => simp
      | wait => cases s.rx with
        | none => simp
        | some x => cases x <;> simp
    | retransmit e => rw [eligible, arbitrate, Option.isSome_ite, expired_iff]
    | ackDelay => rw [eligible, arbitrate, Option.isSome_ite, ackDue_iff]
  · have hnone : arbitrate src (s.setAgenda rest) = none := Option.not_isSome_iff_eq_none.mp (by
      rw [Bool.not_eq_true]; exact hnot)
    rw [step_of_agenda hagenda, makeMove, takeEvent, hnone]

/-! ### A step takes the event -/

/-- Settles O11: the arbiter reads neither the agenda nor, but to keep it, the selected slot. -/
theorem stepRunsTheDecodedInstruction : Obligations.StepRunsTheDecodedInstruction := by
  unfold Obligations.StepRunsTheDecodedInstruction
  refine ⟨fun s ev e rest hagenda => step_of_agenda hagenda, fun s src ev e rest hagenda harb => ?_⟩
  have harb' : arbitrate src (s.setAgenda rest) = some (ev, e) := harb
  rw [step_of_agenda hagenda, makeMove, takeEvent, harb']
  rfl

/-- Settles O16. -/
theorem environmentMovesTouchOnlyTheirPorts : Obligations.EnvironmentMovesTouchOnlyTheirPorts := by
  unfold Obligations.EnvironmentMovesTouchOnlyTheirPorts
  refine ⟨fun s p => ?_, fun s x => ?_, fun s m rest => step_of_agenda⟩
  · rw [makeMove, offerPacket]
    cases s.nl <;> rfl
  · rw [makeMove, presentItem]
    cases s.rx <;> rfl

/-- Settles O14: no event is ready in `FAULTED`, and the other moves but reset touch neither `ctl` nor
`FCAUSE`. -/
theorem onlyResetLeavesFaulted : Obligations.OnlyResetLeavesFaulted := by
  unfold Obligations.OnlyResetLeavesFaulted
  intro s hctl
  have hrefused : ∀ i e, exec i (s.setSel e) = .refused .notEligible := fun i e =>
    (exec_runsWhen_ready i _).2 fun hready => by cases hctl.symm.trans hready.1
  refine ⟨fun i => hrefused i s.sel, fun m t h => ?_⟩
  cases m with
  | take src =>
    obtain ⟨ev, e, _, hexec⟩ := takeEvent_next h
    cases (hrefused _ e).symm.trans hexec
  | drive ev e => cases (hrefused _ e).symm.trans h
  | tick => cases h; simp [hctl]
  | rst => cases h; simp [State.applyReset, State.resetWith]
  | offer p => obtain ⟨_, rfl⟩ := offerPacket_next h; simp [hctl]
  | present x => obtain ⟨_, rfl⟩ := presentItem_next h; simp [hctl]

/-! ### A placed word runs -/

/-- What the decoder answers decides the frame kind of a FRAME_ARRIVAL word (30_encoding R73). -/
theorem kindOfCode_of_decode {ev : BitVec 8} {k : Kind} (h : decode ev = frameEvent k) :
    kindOfCode (fkind ev) = k := by
  obtain ⟨htype, hkind, _⟩ := (decode_eq_iff _ _).mp h
  rw [encode_frameEvent, etype_dispatchWord] at htype
  rw [hkind htype, encode_frameEvent, fkind_dispatchWord]
  cases k <;> rfl

/-- The frame that `raiseSource` presents is of the word's kind. -/
theorem raiseSource_of_frameEvent {ev : BitVec 8} {k : Kind} (s : State) (h : decode ev = frameEvent k) :
    (s.raiseSource ev).ctl = .wait ∧ ∃ f, (s.raiseSource ev).rx = some (.frame f) ∧ f.kind = k := by
  have hbits : ((0 : BitVec 6) ++ fkind ev).extractLsb' 0 2 = fkind ev :=
    BitVec.extractLsb'_append_eq_right
  have hkind : kindOfCode (((0 : BitVec 6) ++ fkind ev).extractLsb' 0 2) = k := by
    rw [hbits, kindOfCode_of_decode h]
  cases k <;> simp only [State.raiseSource, h, frameEvent, true_and] <;> exact ⟨_, rfl, hkind⟩

/-- With the credit that `raiseSource` sees to there is room in the window. -/
theorem raiseSource_nlr_room (s : State) :
    seqDiff s.nfts (if 0 < s.credit then s.ae else s.nfts) < Config.nrBufs := by
  split
  · next hcredit => exact (credit_pos_iff s).mp hcredit
  · rw [seqDiff_self]
    decide

/-- Once the source condition is raised and the source's slot selected, the event is ready (log 12). -/
theorem ready_raiseSource (ev : BitVec 8) (s : State) :
    ready (decode ev) ((s.raiseSource ev).setSel (sourceSlot ev (s.raiseSource ev))) := by
  cases hd : decode ev with
  | nlr =>
    refine ⟨?_, ?_, ?_⟩
    · simp only [State.raiseSource, hd, State.setSel_ctl]
    · simp only [State.raiseSource, hd, State.setSel_nl, Option.isSome_some]
    · simp only [State.raiseSource, hd]
      exact raiseSource_nlr_room s
  | faData => exact raiseSource_of_frameEvent s (k := .data) hd
  | faAck => exact raiseSource_of_frameEvent s (k := .ack) hd
  | faNak => exact raiseSource_of_frameEvent s (k := .nak) hd
  | faRsvd => exact raiseSource_of_frameEvent s (k := .rsvd) hd
  | timeout q => simp [ready, State.raiseSource, sourceSlot, hd, State.setRtx]
  | _ => simp [ready, State.raiseSource, hd]

theorem withFetchWord_byte (s : State) (ev : BitVec 8) :
    s.withFetchWord 8 ev.toNat = s.scheduleWord ev := by
  rw [State.withFetchWord, tableBytes_byte]
  rfl

theorem step_scheduleWord (ev : BitVec 8) (s : State) :
    step (s.scheduleWord ev) =
      exec (decode ev) ((s.raiseSource ev).setSel (sourceSlot ev (s.raiseSource ev))) :=
  step_of_agenda (m := .drive ev _) (rest := (s.raiseSource ev).agenda) rfl

/-- Settles O20: the placed word heads the agenda, and its event is ready. -/
theorem fetchWordRunsNext : Obligations.FetchWordRunsNext := by
  unfold Obligations.FetchWordRunsNext
  intro s ev
  rw [withFetchWord_byte, step_scheduleWord]
  obtain ⟨t, ht⟩ := (exec_runsWhen_ready _ _).1 (ready_raiseSource ev s)
  exact ⟨_, t, rfl, ht⟩

end Sys2Proof.Machine
end

section
/-! SUPPORT. The status word (10_state R35): each field is found above the widths of those it is joined
to. -/

namespace Sys2Proof.Machine

theorem getLsbD_bit (b : Bool) : (bit b).getLsbD 0 = b := by cases b <;> rfl

theorem getLsbD_append_high {n m : Nat} (x : BitVec n) (y : BitVec m) (i : Nat) :
    (x ++ y).getLsbD (m + i) = x.getLsbD i := by
  rw [BitVec.getLsbD_append, if_neg (by omega), Nat.add_sub_cancel_left]

theorem getLsbD_append_low {n m : Nat} (x : BitVec n) (y : BitVec m) {i : Nat} (h : i < m) :
    (x ++ y).getLsbD i = y.getLsbD i := by
  rw [BitVec.getLsbD_append, if_pos h]

/-- The bit of a slot stands at the slot's number. -/
theorem getLsbD_slotBits (q : Quad Bool) (e : Slot) : (slotBits q).getLsbD e.val = q.get e := by
  have hbits : (slotBits q).getLsbD 0 = q.s0 ∧ (slotBits q).getLsbD 1 = q.s1 ∧
      (slotBits q).getLsbD 2 = q.s2 ∧ (slotBits q).getLsbD 3 = q.s3 := by
    simp only [slotBits, BitVec.getLsbD_append, getLsbD_bit, Nat.reduceLT, if_true, if_false, Nat.reduceSub,
      and_self]
  revert e
  rw [forall_slot]
  exact hbits

theorem credit_lt (s : State) : s.credit < 2 ^ 3 :=
  Nat.lt_of_le_of_lt (Nat.sub_le _ _) (by decide)

/-! The bits of the slots, above the sum of the widths below them. -/

theorem statusO_arrived (s : State) (e : Slot) :
    s.statusO.getLsbD (13 + e.val) = s.arrived.get e := by
  have hplace : 13 + e.val = 3 + (3 + (3 + (3 + (1 + e.val)))) := by omega
  rw [State.statusO, hplace]
  simp only [getLsbD_append_high]
  rw [getLsbD_append_low _ _ e.isLt, getLsbD_slotBits]

theorem statusO_armed (s : State) (e : Slot) :
    s.statusO.getLsbD (22 + e.val) = (s.rtx.get e).armed := by
  have hplace : 22 + e.val = 3 + (3 + (3 + (3 + (1 + (4 + (3 + (1 + (1 + e.val)))))))) := by omega
  rw [State.statusO, hplace]
  simp only [getLsbD_append_high]
  rw [getLsbD_append_low _ _ e.isLt, getLsbD_slotBits, Quad.get_map]

theorem statusO_pending (s : State) (e : Slot) :
    s.statusO.getLsbD (26 + e.val) = (s.rtx.get e).pending := by
  have hplace : 26 + e.val = 3 + (3 + (3 + (3 + (1 + (4 + (3 + (1 + (1 + (4 + e.val))))))))) := by
    omega
  rw [State.statusO, hplace]
  simp only [getLsbD_append_high]
  rw [getLsbD_append_low _ _ e.isLt, getLsbD_slotBits, Quad.get_map]

/-- Settles O19: the slots' bits, and each other field read off the word part by part. -/
theorem statusWordLayout : Obligations.StatusWordLayout := by
  unfold Obligations.StatusWordLayout
  intro s
  simp only [statusO_arrived, statusO_armed, statusO_pending]
  simp only [State.statusO, BitVec.extractLsb'_append_eq_right, BitVec.extractLsb'_append_eq_of_le,
    Nat.reduceLeDiff, Nat.reduceSub, BitVec.toNat_ofNat, Nat.mod_eq_of_lt (credit_lt s),
    Nat.le_refl, Nat.sub_self, BitVec.getLsbD_append, Nat.reduceLT, if_true, if_false, getLsbD_bit,
    implies_true, and_self]

end Sys2Proof.Machine
end

section
/-! SUPPORT. What each event may write (43_protocol_engine R191), said once: the closed form of the drain
loop whether it faults or not, the frame of every shared operation, and one inversion of `exec`. From it,
the statements about registers and buffers. -/

namespace Sys2Proof.Machine

/-! ### The drain loop, faulting or not -/

/-- The state after the packets `dl` were delivered from the slots from that of `FE` on (43 R177). -/
def drained (dl : List Packet) (s : State) : State :=
  { s with
    noNak := if dl = [] then s.noNak else true
    arrived := clearRun dl.length s.arrived s.fe
    fe := s.fe + BitVec.ofNat 3 dl.length
    ackt := if dl = [] then s.ackt else AckTimer.started s.timeouts
    out := s.out ++ dl.map Output.deliver }

theorem drained_nil (s : State) : drained [] s = s := by
  simp [drained, clearRun]

theorem drained_deliverOne (p : Packet) (dl : List Packet) (s : State) :
    drained dl (deliverOne p s) = drained (p :: dl) s := by
  rw [deliverOne_eq]
  simp only [drained, clearRun, List.length_cons, reduceCtorEq, if_false, ite_self]
  congr 1
  · rw [BitVec.add_assoc, Nat.add_comm, BitVec.ofNat_add]
  · simp

/-- One iteration that delivers (43 R177). -/
theorem drain_deliver (k : Nat) {s : State} {p : Packet} (harr : s.arrived.get (slot s.fe) = true)
    (hread : s.inBuf.read (slot s.fe) = some p) : drain (k + 1) s = drain k (deliverOne p s) := by
  rw [drain, if_pos harr, withSlot_some _ _ hread]

/-- One iteration that faults (60 R225). -/
theorem drain_fault (k : Nat) {s : State} (harr : s.arrived.get (slot s.fe) = true)
    (hread : s.inBuf.read (slot s.fe) = none) :
    drain (k + 1) s = .ended (s.raiseFault .unwrittenSlot) := by
  rw [drain, if_pos harr, withSlot_none _ _ hread]

/-- Everything the drain loop can do: it delivers packets it finds in the buffer, one an iteration, and
then ends by itself or faults at an unwritten slot (43 R177, 60 R225). -/
theorem drain_cases (k : Nat) (s : State) :
    ∃ dl : List Packet, dl.length ≤ k ∧ (∀ p ∈ dl, ∃ e, s.inBuf.read e = some p) ∧
      (drain k s = .running (drained dl s) ∨
        drain k s = .ended ((drained dl s).raiseFault .unwrittenSlot)) := by
  induction k generalizing s with
  | zero => exact ⟨[], Nat.le_refl _, by simp, .inl (by rw [drained_nil, drain])⟩
  | succ k ih =>
    by_cases harr : s.arrived.get (slot s.fe) = true
    · cases hread : s.inBuf.read (slot s.fe) with
      | none =>
        refine ⟨[], Nat.zero_le _, by simp, .inr ?_⟩
        rw [drain_fault k harr hread, drained_nil]
      | some p =>
        obtain ⟨dl, hlen, hheld, hend⟩ := ih (deliverOne p s)
        rw [drained_deliverOne, ← drain_deliver k harr hread] at hend
        exact ⟨p :: dl, Nat.succ_le_succ hlen, List.forall_mem_cons.mpr ⟨⟨_, hread⟩, hheld⟩, hend⟩
    · refine ⟨[], Nat.zero_le _, by simp, .inl ?_⟩
      rw [drain, if_neg harr, drained_nil]

theorem acceptFrame_of_accepted {f : FrameWord} {s : State} (h : Accepted f s) :
    acceptFrame f s = drain Config.nrBufs (storeArrived f s) :=
  if_pos ((accepts_iff f s).mpr h)

theorem acceptFrame_of_not_accepted {f : FrameWord} {s : State} (h : ¬ Accepted f s) :
    acceptFrame f s = .running s :=
  if_neg fun hacc => h ((accepts_iff f s).mp hacc)

/-! ### Closed forms of the events that can end in several ways -/

/-- What FRAME_ARRIVAL of a DATA frame found and did before the acknowledgement: the frame at the port,
whether a NAK was sent, the packets delivered, and buffer and bitmap between acceptance and drain. -/
structure Receipt (s : State) where
  f : FrameWord
  nak : Bool
  dl : List Packet
  buf : Memory
  arr : Quad Bool
  atPort : s.rx = some (.frame f)
  nak_iff : nak = true ↔ f.seq ≠ s.fe ∧ s.noNak = true
  dl_length : dl.length ≤ Config.nrBufs
  dl_held : ∀ p ∈ dl, ∃ e, buf.read e = some p
  stored :
    (Accepted f s ∧ buf = s.inBuf.write (slot f.seq) f.payload ∧
      arr = s.arrived.set (slot f.seq) true) ∨
    (¬ Accepted f s ∧ buf = s.inBuf ∧ arr = s.arrived ∧ dl = [])

/-- The state after the drain loop. -/
def Receipt.drained {s : State} (r : Receipt s) : State :=
  Machine.drained r.dl { afterDecision r.nak s with inBuf := r.buf, arrived := r.arr }

/-- A NAK is sent or not (43 R175). -/
theorem exists_nak_decision (f : FrameWord) (s : State) :
    ∃ nak : Bool, nak = true ↔ f.seq ≠ s.fe ∧ s.noNak = true :=
  ⟨decide (f.seq ≠ s.fe ∧ s.noNak = true), decide_eq_true_iff⟩

/-- The drain loop came to its own end, and the acknowledgement follows, or it faulted (43 R182). -/
theorem exec_faData_cases {s t : State} (h : exec .faData s = .next t) :
    ∃ r : Receipt s, t = ackProcess r.f.ack r.drained ∨
      t = r.drained.raiseFault .unwrittenSlot := by
  obtain ⟨f, u, harr, hdecide, htail⟩ := exec_faData_next h
  obtain ⟨_, hrx, _⟩ := (arriving_iff _ _ _).mp harr
  obtain ⟨nak, hnak⟩ := exists_nak_decision f s
  cases (nakOrDelay_takeRx hnak).symm.trans hdecide
  by_cases hacc : Accepted f s
  · have hacc' : Accepted f (afterDecision nak s) := hacc
    obtain ⟨dl, hlen, hheld, hend⟩ := drain_cases Config.nrBufs (storeArrived f (afterDecision nak s))
    rw [acceptFrame_of_accepted hacc'] at htail
    refine ⟨⟨f, nak, dl, _, _, hrx, hnak, hlen, hheld, .inl ⟨hacc, rfl, rfl⟩⟩, ?_⟩
    rcases hend with hend | hend <;> rw [hend] at htail
    · obtain ⟨v, hv, rfl⟩ | hv := htail <;> cases hv
      exact .inl rfl
    · obtain ⟨v, hv, rfl⟩ | hv := htail <;> cases hv
      exact .inr rfl
  · have hacc' : ¬ Accepted f (afterDecision nak s) := hacc
    rw [acceptFrame_of_not_accepted hacc'] at htail
    obtain ⟨v, hv, rfl⟩ | hv := htail <;> cases hv
    refine ⟨⟨f, nak, [], _, _, hrx, hnak, Nat.zero_le _, by simp, .inr ⟨hacc, rfl, rfl, rfl⟩⟩, .inl ?_⟩
    rw [Receipt.drained, drained_nil]
    rfl

/-- Any property that the acknowledgement keeps holds after a handler that acknowledges last, if it holds
of what comes before, whether that goes through or faults. -/
theorem keeps_of_ack_last {P : State → Prop} {f : Flow} {a : Seq} {t : State}
    (hack : ∀ v, P v → P (ackProcess a v)) (h : P f.state)
    (htail : (∃ v, f = .running v ∧ t = ackProcess a v) ∨ f = .ended t) : P t := by
  rcases htail with ⟨v, rfl, rfl⟩ | rfl
  · exact hack v h
  · exact h

/-! ### What each event may write -/

/-- `ctl` and `FCAUSE` stay, or take one of the two faults (60 R221, R224). -/
def FaultOnly (s : State) (ctl : Ctl) (fcause : BitVec 2) : Prop :=
  (ctl = s.ctl ∧ fcause = s.fcause) ∨ (ctl = .faulted ∧ (fcause = 1 ∨ fcause = 2))

theorem ackProcess_frame (a : Seq) (s : State) :
    ∃ ae rtx out, ackProcess a s = { s with ae := ae, rtx := rtx, out := out } :=
  ⟨_, _, _, (ackProcess_effect a s).frame⟩

theorem sendData_frame (nr : Seq) (s : State) :
    ∃ rtx ackt out ctl fcause, FaultOnly s ctl fcause ∧ (sendData nr s).state =
      { s with rtx := rtx, ackt := ackt, out := out, ctl := ctl, fcause := fcause } := by
  rcases sendData_cases nr s with ⟨_, hsend⟩ | ⟨p, _, _, hsend⟩ | ⟨p, _, _, hsend⟩ <;> rw [hsend]
  · exact ⟨_, _, _, _, _, .inr ⟨rfl, .inr rfl⟩, rfl⟩
  · exact ⟨_, _, _, _, _, .inr ⟨rfl, .inl rfl⟩, rfl⟩
  · exact ⟨_, _, _, _, _, .inl ⟨rfl, rfl⟩, rfl⟩

theorem resendRequested_frame (a : Seq) (s : State) :
    ∃ rtx ackt out ctl fcause, FaultOnly s ctl fcause ∧ (resendRequested a s).state =
      { s with rtx := rtx, ackt := ackt, out := out, ctl := ctl, fcause := fcause } := by
  rw [resendRequested_eq]
  split
  · exact sendData_frame _ s
  · exact ⟨_, _, _, _, _, .inl ⟨rfl, rfl⟩, rfl⟩

/-- The state after each event, with the columns it may write arbitrary and everything else as it was
(43 R191). -/
inductive Writes (s : State) : Instr → State → Prop
  | nlr (p : Packet) (nfts : Seq) (rtx : Quad RtxEntry) (ackt : AckTimer) (out : List Output) (ctl : Ctl)
      (fcause : BitVec 2) (offer : s.nl = some p) (fault : FaultOnly s ctl fcause) :
      Writes s .nlr
        { s with
          nl := none, outBuf := s.outBuf.write (slot s.nfts) p, nfts := nfts, rtx := rtx, ackt := ackt
          out := out, ctl := ctl, fcause := fcause }
  | faData (f : FrameWord) (ae fe : Seq) (noNak : Bool) (arrived : Quad Bool) (inBuf : Memory)
      (rtx : Quad RtxEntry) (ackt : AckTimer) (out : List Output) (ctl : Ctl) (fcause : BitVec 2)
      (item : s.rx = some (.frame f))
      (stored : inBuf = s.inBuf ∨ Accepted f s ∧ inBuf = s.inBuf.write (slot f.seq) f.payload)
      (fault : FaultOnly s ctl fcause) :
      Writes s .faData
        { s with
          rx := none, ae := ae, fe := fe, noNak := noNak, arrived := arrived, inBuf := inBuf, rtx := rtx
          ackt := ackt, out := out, ctl := ctl, fcause := fcause }
  | faAck (ae : Seq) (rtx : Quad RtxEntry) (out : List Output) :
      Writes s .faAck { s with rx := none, ae := ae, rtx := rtx, out := out }
  | faNak (ae : Seq) (rtx : Quad RtxEntry) (ackt : AckTimer) (out : List Output) (ctl : Ctl)
      (fcause : BitVec 2) (fault : FaultOnly s ctl fcause) :
      Writes s .faNak
        { s with
          rx := none, ae := ae, rtx := rtx, ackt := ackt, out := out, ctl := ctl, fcause := fcause }
  | faRsvd (out : List Output) : Writes s .faRsvd { s with rx := none, anom := true, out := out }
  | cksum (noNak : Bool) (ackt : AckTimer) (out : List Output) :
      Writes s .cksum { s with rx := none, noNak := noNak, ackt := ackt, out := out }
  | timeout (q : Seq) (rtx : Quad RtxEntry) (ackt : AckTimer) (out : List Output) (ctl : Ctl)
      (fcause : BitVec 2) (fault : FaultOnly s ctl fcause) :
      Writes s (.timeout q) { s with rtx := rtx, ackt := ackt, out := out, ctl := ctl, fcause := fcause }
  | ackto (out : List Output) : Writes s .ackto { s with ackt := AckTimer.idle, out := out }
  | rsvd (i : Instr) (out : List Output) (reserved : i = .rsvd5 ∨ i = .rsvd6 ∨ i = .rsvd7) :
      Writes s i { s with anom := true, out := out }

theorem exec_nlr_writes {s t : State} (h : exec .nlr s = .next t) : Writes s .nlr t := by
  obtain ⟨p, hoff, rfl⟩ := exec_nlr_next h
  obtain ⟨_, _, hnl⟩ := (offered_iff s p).mp hoff
  by_cases htaken : Taken s.takeNl.nfts s.takeNl
  · rw [sendPacket_ended htaken]
    simp only [State.takeNl, State.begin, State.setNl, State.emit, Flow.state_ended]
    exact .nlr p _ _ _ _ _ _ hnl (.inr ⟨rfl, .inl rfl⟩)
  · rw [sendPacket_running htaken]
    simp only [State.takeNl, State.begin, State.setNl, State.emit, Flow.state_running]
    exact .nlr p _ _ _ _ _ _ hnl (.inl ⟨rfl, rfl⟩)

theorem exec_faData_writes {s t : State} (h : exec .faData s = .next t) : Writes s .faData t := by
  obtain ⟨r, hend⟩ := exec_faData_cases h
  have hstored : r.buf = s.inBuf ∨
      Accepted r.f s ∧ r.buf = s.inBuf.write (slot r.f.seq) r.f.payload := by
    rcases r.stored with ⟨hacc, hbuf, _⟩ | ⟨_, hbuf, _⟩
    · exact .inr ⟨hacc, hbuf⟩
    · exact .inl hbuf
  rcases hend with rfl | rfl
  · obtain ⟨ae, rtx, out, hack⟩ := ackProcess_frame r.f.ack r.drained
    rw [hack]
    simp only [Receipt.drained, Machine.drained, afterDecision]
    exact .faData r.f _ _ _ _ _ _ _ _ _ _ r.atPort hstored (.inl ⟨rfl, rfl⟩)
  · simp only [State.raiseFault, Receipt.drained, Machine.drained, afterDecision]
    exact .faData r.f _ _ _ _ _ _ _ _ _ _ r.atPort hstored (.inr ⟨rfl, .inr rfl⟩)

theorem exec_faAck_writes {s t : State} (h : exec .faAck s = .next t) : Writes s .faAck t := by
  obtain ⟨f, _, rfl⟩ := exec_faAck_next h
  obtain ⟨ae, rtx, out, hack⟩ := ackProcess_frame f.ack s.takeRx
  rw [hack]
  simp only [State.takeRx, State.begin, State.setRx, State.emit]
  exact .faAck ae rtx out

theorem exec_faNak_writes {s t : State} (h : exec .faNak s = .next t) : Writes s .faNak t := by
  obtain ⟨f, _, htail⟩ := exec_faNak_next h
  refine keeps_of_ack_last (P := Writes s .faNak) (fun v hv => ?_) ?_ htail
  · obtain ⟨ae, rtx, out, hack⟩ := ackProcess_frame f.ack v
    rw [hack]
    cases hv with
    | faNak _ _ _ _ _ _ fault => exact .faNak _ _ _ _ _ _ fault
    | rsvd _ _ reserved => simp at reserved
  · obtain ⟨rtx, ackt, out, ctl, fcause, hfault, hsend⟩ := resendRequested_frame f.ack s.takeRx
    rw [hsend]
    simp only [State.takeRx, State.begin, State.setRx, State.emit]
    exact .faNak _ _ _ _ _ _ hfault

theorem exec_cksum_writes {s t : State} (h : exec .cksum s = .next t) : Writes s .cksum t := by
  obtain ⟨_, rfl⟩ := exec_cksum_next h
  simp only [State.takeRx, State.begin, State.setRx, State.emit]
  split
  · exact .cksum _ _ _
  · exact .cksum _ _ _

theorem exec_timeout_writes {q : Seq} {s t : State} (h : exec (.timeout q) s = .next t) :
    Writes s (.timeout q) t := by
  obtain ⟨_, _, rfl⟩ := exec_timeout_next h
  obtain ⟨rtx, ackt, out, ctl, fcause, hfault, hsend⟩ :=
    sendData_frame q (consumeTimeout s.sel s.begin)
  rw [hsend]
  simp only [consumeTimeout, State.begin, State.setRtx]
  exact .timeout q _ _ _ _ _ hfault

theorem exec_faRsvd_writes {s t : State} (h : exec .faRsvd s = .next t) : Writes s .faRsvd t := by
  obtain ⟨f, _, rfl⟩ := exec_faRsvd_next h
  simp only [State.raiseAnomaly, State.takeRx, State.begin, State.setRx, State.emit, State.setAnom]
  exact .faRsvd _

theorem unrecognizedEvent_writes {i : Instr} {s t : State} (h : unrecognizedEvent s = .next t)
    (hi : i = .rsvd5 ∨ i = .rsvd6 ∨ i = .rsvd7) : Writes s i t := by
  obtain ⟨_, rfl⟩ := unrecognizedEvent_next h
  exact .rsvd i _ hi

theorem exec_writes {i : Instr} {s t : State} (h : exec i s = .next t) : Writes s i t := by
  cases i with
  | nlr => exact exec_nlr_writes h
  | faData => exact exec_faData_writes h
  | faAck => exact exec_faAck_writes h
  | faNak => exact exec_faNak_writes h
  | faRsvd => exact exec_faRsvd_writes h
  | cksum => exact exec_cksum_writes h
  | timeout q => exact exec_timeout_writes h
  | ackto => obtain ⟨_, rfl⟩ := exec_ackto_next h; exact .ackto _
  | rsvd5 => exact unrecognizedEvent_writes h (by simp)
  | rsvd6 => exact unrecognizedEvent_writes h (by simp)
  | rsvd7 => exact unrecognizedEvent_writes h (by simp)

/-- An event that goes through starts in `WAIT`, so one without a fault ends there. -/
theorem FaultOnly.of_wait {s : State} {ctl : Ctl} {fcause : BitVec 2} (h : FaultOnly s ctl fcause)
    (hctl : s.ctl = .wait) :
    (ctl = .wait ∧ fcause = s.fcause) ∨ (ctl = .faulted ∧ (fcause = 1 ∨ fcause = 2)) := by
  rwa [FaultOnly, hctl] at h

/-- Settles O42: each column of the summary, event by event. -/
theorem eventsWriteOnlyTheirState : Obligations.EventsWriteOnlyTheirState := by
  unfold Obligations.EventsWriteOnlyTheirState
  intro i s t h
  have hctl := ctl_of_exec_next h
  cases exec_writes h with
  | nlr _ _ _ _ _ _ _ _ fault => simpa using fault.of_wait hctl
  | faData _ _ _ _ _ _ _ _ _ _ _ _ _ fault => simpa using fault.of_wait hctl
  | faAck => simp [hctl]
  | faNak _ _ _ _ _ _ fault => simpa using fault.of_wait hctl
  | faRsvd => simp [hctl]
  | cksum => simp [hctl]
  | timeout _ _ _ _ _ _ fault => simpa using fault.of_wait hctl
  | ackto => simp [hctl]
  | rsvd _ _ reserved => rcases reserved with rfl | rfl | rfl <;> simp [hctl]

/-! ### The buffers -/

/-- The one event that writes `OUT_BUF` (20 R56). -/
theorem exec_outBuf {i : Instr} {s t : State} (h : exec i s = .next t) :
    (i ≠ .nlr ∧ t.outBuf = s.outBuf) ∨
      (i = .nlr ∧ ∃ p, s.nl = some p ∧ t.outBuf = s.outBuf.write (slot s.nfts) p) := by
  cases exec_writes h with
  | nlr p _ _ _ _ _ _ offer _ => exact .inr ⟨rfl, p, offer, rfl⟩
  | rsvd _ _ reserved => rcases reserved with rfl | rfl | rfl <;> simp
  | _ => simp

/-- The one event that writes `IN_BUF`, in the slot of an accepted frame (20 R58). -/
theorem exec_inBuf {i : Instr} {s t : State} (h : exec i s = .next t) :
    t.inBuf = s.inBuf ∨ (i = .faData ∧ ∃ f, s.rx = some (.frame f) ∧ Accepted f s ∧
      t.inBuf = s.inBuf.write (slot f.seq) f.payload) := by
  cases exec_writes h with
  | faData f _ _ _ _ _ _ _ _ _ _ item stored _ =>
    rcases stored with hsame | ⟨hacc, hwrite⟩
    · exact .inl hsame
    · exact .inr ⟨rfl, f, item, hacc, hwrite⟩
  | _ => exact .inl rfl

/-- Settles O43, from the one write that each buffer can see. -/
theorem bufferFrames : Obligations.BufferFrames := by
  unfold Obligations.BufferFrames
  intro i s t h
  refine ⟨fun e hne => ?_, fun hi => ?_, fun e hne => ?_, fun f hi hrx => ?_⟩
  · rcases exec_outBuf h with ⟨_, hsame⟩ | ⟨hi, p, _, hwrite⟩
    · rw [hsame]
    · rw [hwrite, Memory.read_write_of_ne _ _ fun he => hne ⟨hi, he⟩]
  · rcases exec_outBuf h with ⟨hne, _⟩ | ⟨_, p, hnl, hwrite⟩
    · exact absurd hi hne
    · rw [hwrite, Memory.read_write_self, hnl]
  · rcases exec_inBuf h with hsame | ⟨hi, f, hrx, _, hwrite⟩
    · rw [hsame]
    · rw [hwrite, Memory.read_write_of_ne _ _ (hne f hi hrx)]
  · rcases exec_inBuf h with hsame | ⟨_, g, hrx', _, hwrite⟩
    · rw [hsame]
      exact .inr rfl
    · cases hrx.symm.trans hrx'
      rw [hwrite, Memory.read_write_self]
      exact .inl rfl

/-- While there is credit, no outstanding number shares the slot of `NFTS` (20 R57). -/
theorem slot_ne_nfts_of_outstanding {s : State} {q : Seq} (hroom : s.nout < Config.nrBufs)
    (hout : s.outstanding q = true) : slot q ≠ slot s.nfts := by
  rw [Ne, slot_eq_iff]
  rintro (rfl | rfl)
  · rw [State.outstanding, between_iff] at hout
    exact Nat.lt_irrefl _ hout
  · rw [State.outstanding, between_add_four_of_credit hroom] at hout
    cases hout

/-- NETWORK_LAYER_READY runs only with credit. -/
theorem room_of_exec_nlr {s t : State} (h : exec .nlr s = .next t) : s.nout < Config.nrBufs := by
  obtain ⟨p, hoff, _⟩ := exec_nlr_next h
  exact ((offered_iff s p).mp hoff).2.1

/-- Settles O44: an outstanding number's slot is not that of `NFTS`, and an arrived slot is not that of
an accepted frame. -/
theorem heldPacketsAreNotOverwritten : Obligations.HeldPacketsAreNotOverwritten := by
  unfold Obligations.HeldPacketsAreNotOverwritten
  intro i s t h
  refine ⟨fun _ q hout => ?_, fun e harr => ?_⟩
  · rcases exec_outBuf h with ⟨_, hsame⟩ | ⟨rfl, p, _, hwrite⟩
    · rw [hsame]
    · have hne := slot_ne_nfts_of_outstanding (room_of_exec_nlr h) hout
      rw [hwrite, Memory.read_write_of_ne _ _ hne]
  · rcases exec_inBuf h with hsame | ⟨_, f, _, ⟨_, hfree⟩, hwrite⟩
    · rw [hsame]
    · have hne : e ≠ slot f.seq := by
        rintro rfl
        exact Bool.false_ne_true (hfree.symm.trans harr)
      rw [hwrite, Memory.read_write_of_ne _ _ hne]

end Sys2Proof.Machine
end

section
/-! SUPPORT. What one event reports (43_protocol_engine R190): the actions of the step with what they say
about the state it leaves, in one inversion of `exec`. From it, the statements about transmitted frames,
NAKs, the acknowledgement timer, credit and deliveries. -/

namespace Sys2Proof.Machine

/-! ### The outputs of a step, by kind -/

/-- Is the frame that the actions send a NAK? -/
def Actions.sendsNak (a : Actions) : Bool :=
  match a.tx with
  | some f => decide (f.kind = .nak)
  | none => false

/-- The units of credit that the actions grant. -/
def Actions.units (a : Actions) : Nat :=
  match a.gr with
  | some n => n.toNat
  | none => 0

/-- A frame as 42 R151, R153 and 30 R79 want it, sent by an engine that expects `fe`. -/
def Conforms (fe : Seq) (f : FrameWord) : Prop := f.toFrame.wellFormed = true ∧ f.ack = dec fe

theorem conforms_dataFrame (nr : Seq) (p : Packet) (s : State) :
    Conforms s.fe (dataFrame nr p s).toWord :=
  ⟨by rw [toFrame_toWord]; rfl, ack_toWord _⟩

theorem conforms_nakFrame (s : State) : Conforms s.fe (controlFrame .nak 0 s).toWord :=
  ⟨by rw [toFrame_toWord]; rfl, ack_toWord _⟩

theorem conforms_ackFrame (s : State) : Conforms s.fe (controlFrame .ack 0 s).toWord :=
  ⟨by rw [toFrame_toWord]; rfl, ack_toWord _⟩

/-- The actions `a` are what the event `i` did on the way from `s` to `t`, as far as the outputs tell. -/
structure Reports (i : Instr) (s t : State) (a : Actions) : Prop where
  out : t.out = a.outputs
  taken : a.taken = [] ∨ a.taken = [.takeNl] ∨ a.taken = [.takeRx] := by simp
  conform : ∀ f, a.tx = some f → Conforms s.fe f := by simp
  /-- A DATA frame carries a packet of `OUT_BUF`. -/
  held : ∀ f, a.tx = some f → f.kind = .data → ∃ e, t.outBuf.read e = some f.payload := by simp
  nak : a.sendsNak = true → s.noNak = true := by simp [Actions.sendsNak]
  noNak : t.noNak = if a.dl ≠ [] then true else if a.sendsNak then false else s.noNak := by
    simp [Actions.sendsNak]
  ackt : t.ctl = .wait → a.tx ≠ none → a.dl = [] → t.ackt = AckTimer.idle := by simp
  dl_length : a.dl.length ≤ Config.nrBufs := by simp
  /-- Every packet delivered is one of `IN_BUF`. -/
  dl_held : ∀ p ∈ a.dl, ∃ e, t.inBuf.read e = some p := by simp
  fe : t.fe = s.fe + BitVec.ofNat 3 a.dl.length := by simp
  nout : t.ctl = .wait → t.nout + a.units = s.nout + if i = .nlr then 1 else 0

section
variable {i : Instr} {s t u v : State} {a : Actions}

theorem Reports.tx_mem_iff (h : Reports i s t a) (f : FrameWord) :
    Output.tx f ∈ t.out ↔ a.tx = some f := by
  rw [h.out]
  rcases h.taken with ht | ht | ht <;> simp [Actions.outputs, ht]

theorem Reports.deliver_mem_iff (h : Reports i s t a) (p : Packet) :
    Output.deliver p ∈ t.out ↔ p ∈ a.dl := by
  rw [h.out]
  rcases h.taken with ht | ht | ht <;> simp [Actions.outputs, ht]

/-- Of the five kinds of action only the deliveries count. -/
theorem Reports.deliveries_length (h : Reports i s t a) :
    (t.out.filter Output.isDeliver).length = a.dl.length := by
  have htaken : a.taken.filter Output.isDeliver = [] := by
    rcases h.taken with ht | ht | ht <;> rw [ht] <;> rfl
  have htx : (a.tx.map Output.tx).toList.filter Output.isDeliver = [] := by cases a.tx <;> rfl
  have hdl : (a.dl.map Output.deliver).filter Output.isDeliver = a.dl.map Output.deliver := by
    simp [Output.isDeliver]
  have hgr : (a.gr.map Output.grant).toList.filter Output.isDeliver = [] := by cases a.gr <;> rfl
  have han : (a.an.map Output.anomaly).toList.filter Output.isDeliver = [] := by cases a.an <;> rfl
  rw [h.out, Actions.outputs]
  simp only [List.filter_append, htaken, htx, hdl, hgr, han]
  simp

/-- Of the five kinds of action only the grant counts. -/
theorem Reports.units_sum (h : Reports i s t a) : (t.out.map Output.units).sum = a.units := by
  have htaken : (a.taken.map Output.units).sum = 0 := by
    rcases h.taken with ht | ht | ht <;> rw [ht] <;> rfl
  have htx : ((a.tx.map Output.tx).toList.map Output.units).sum = 0 := by cases a.tx <;> rfl
  have hdl : ((a.dl.map Output.deliver).map Output.units).sum = 0 := by
    rw [List.map_map]
    exact List.sum_eq_zero (by simp [Output.units])
  have hgr : ((a.gr.map Output.grant).toList.map Output.units).sum = a.units := by
    rw [Actions.units]
    cases a.gr <;> rfl
  have han : ((a.an.map Output.anomaly).toList.map Output.units).sum = 0 := by cases a.an <;> rfl
  rw [h.out, Actions.outputs]
  simp only [List.map_append, List.sum_append, htaken, htx, hdl, hgr, han, Nat.zero_add, Nat.add_zero]

theorem Reports.exists_deliver_iff (h : Reports i s t a) :
    (∃ o ∈ t.out, o.isDeliver = true) ↔ a.dl ≠ [] := by
  rw [← List.length_pos_iff, ← h.deliveries_length, List.length_pos_iff, Ne, List.filter_eq_nil_iff]
  simp

theorem Reports.exists_nak_iff (h : Reports i s t a) :
    (∃ o ∈ t.out, o.isNak = true) ↔ a.sendsNak = true := by
  rw [Actions.sendsNak]
  constructor
  · rintro ⟨o, ho, hnak⟩
    cases o with
    | tx f => rw [(h.tx_mem_iff f).mp ho]; exact hnak
    | _ => cases hnak
  · intro hnak
    split at hnak
    · next f hf => exact ⟨_, (h.tx_mem_iff f).mpr hf, hnak⟩
    · cases hnak

theorem Reports.forall_not_deliver_iff (h : Reports i s t a) :
    (∀ o ∈ t.out, o.isDeliver = false) ↔ a.dl = [] := by
  rw [← not_iff_not, ← Ne, ← h.exists_deliver_iff]
  simp

theorem Reports.forall_not_nak_iff (h : Reports i s t a) :
    (∀ o ∈ t.out, o.isNak = false) ↔ a.sendsNak = false := by
  rw [← not_iff_not, Bool.not_eq_false, ← h.exists_nak_iff]
  simp

theorem Reports.exists_tx_iff (h : Reports i s t a) :
    (∃ o ∈ t.out, o.isTx = true) ↔ a.tx ≠ none := by
  constructor
  · rintro ⟨o, ho, htx⟩
    cases o with
    | tx f => rw [(h.tx_mem_iff f).mp ho]; exact Option.some_ne_none f
    | _ => cases htx
  · intro htx
    obtain ⟨f, hf⟩ := Option.ne_none_iff_exists'.mp htx
    exact ⟨_, (h.tx_mem_iff f).mpr hf, rfl⟩

/-! ### What the shared operations add to a report -/

/-- A fault adds no output, and the rest says nothing about a faulted state. -/
theorem Reports.raiseFault (c : FaultCause) (h : Reports i s v a) : Reports i s (v.raiseFault c) a where
  out := h.out
  taken := h.taken
  conform := h.conform
  held := h.held
  nak := h.nak
  noNak := h.noNak
  ackt := fun hctl => by cases hctl
  dl_length := h.dl_length
  dl_held := h.dl_held
  fe := h.fe
  nout := fun hctl => by cases hctl

/-- What is granted is what the acknowledgement takes from the outstanding frames (43 R183, R184). -/
theorem seqDiff_acked_add_grant {ae a nfts : Seq} (h : between ae a nfts = true) :
    seqDiff nfts (a + 1#3) + (BitVec.ofNat 3 (seqDiff a ae + 1)).toNat = seqDiff nfts ae := by
  revert ae a nfts
  decide

theorem ackProcess_grant (x : Seq) (v : State) :
    ∃ gr : Option (BitVec 3), (ackProcess x v).out = v.out ++ (gr.map Output.grant).toList ∧
      (ackProcess x v).nout + ({ gr := gr } : Actions).units = v.nout := by
  have heffect := ackProcess_effect x v
  by_cases hin : between v.ae x v.nfts = true
  · refine ⟨some (BitVec.ofNat 3 (seqDiff x v.ae + 1)), heffect.out.trans (if_pos hin), ?_⟩
    rw [State.nout, ackProcess_nfts, heffect.ae, if_pos hin]
    exact seqDiff_acked_add_grant hin
  · refine ⟨none, ?_, ?_⟩
    · rw [heffect.out, if_neg hin]
      exact (List.append_nil _).symm
    · rw [State.nout, ackProcess_nfts, heffect.ae, if_neg hin]
      rfl

/-- The acknowledgement adds its grant. -/
theorem Reports.ackProcess {l : List Output} {tx : Option FrameWord} {dl : List Packet} (x : Seq)
    (h : Reports i s v { taken := l, tx := tx, dl := dl }) :
    ∃ gr, Reports i s (ackProcess x v) { taken := l, tx := tx, dl := dl, gr := gr } := by
  obtain ⟨gr, hout, hnout⟩ := ackProcess_grant x v
  obtain ⟨ae, rtx, out, hack⟩ := ackProcess_frame x v
  rw [hack] at hout hnout ⊢
  refine ⟨gr, { h with out := ?_, nout := fun hctl => hnout.trans (h.nout hctl) }⟩
  rw [hout, h.out]
  simp [Actions.outputs]

/-- `send_frame(DATA, nr)` adds at most the frame it sends, whether it faults or not. -/
theorem Reports.sendData {l : List Output} (nr : Seq) (h : Reports i s u { taken := l }) :
    ∃ tx, Reports i s (sendData nr u).state { taken := l, tx := tx } := by
  have hout : u.out = l := by simpa [Actions.outputs] using h.out
  have hfe : u.fe = s.fe := by simpa using h.fe
  have hnoNak : u.noNak = s.noNak := h.noNak
  rcases sendData_cases nr u with ⟨_, hsend⟩ | ⟨p, hread, _, hsend⟩ | ⟨p, hread, _, hsend⟩ <;>
    rw [hsend]
  · exact ⟨none, h.raiseFault _⟩
  all_goals
    refine ⟨some (dataFrame nr p u).toWord,
      { out := by simp [Actions.outputs, hout, cancelAckDelay]
        taken := h.taken
        conform := fun f hf => ?_
        held := fun f hf _ => ?_
        nak := by simp [Actions.sendsNak]
        noNak := by simp [Actions.sendsNak, hnoNak, cancelAckDelay]
        ackt := ?_
        fe := by simp [hfe, cancelAckDelay]
        nout := ?_ }⟩
    · cases hf
      exact hfe ▸ conforms_dataFrame nr p u
    · cases hf
      exact ⟨slot nr, hread⟩
  · exact fun hctl => by cases hctl
  · exact fun hctl => by cases hctl
  · exact fun _ _ _ => rfl
  · exact h.nout

end

/-! ### What each event reports -/

theorem exec_nlr_reports {s t : State} (h : exec .nlr s = .next t) : ∃ a, Reports .nlr s t a := by
  have hroom := room_of_exec_nlr h
  obtain ⟨p, _, rfl⟩ := exec_nlr_next h
  refine ⟨{ taken := [.takeNl], tx := some (dataFrame s.nfts p s).toWord }, ?_⟩
  by_cases htaken : Taken s.takeNl.nfts s.takeNl
  · rw [sendPacket_ended htaken]
    exact
      { out := rfl
        conform := fun f hf => by cases hf; exact conforms_dataFrame s.nfts p s
        held := fun f hf _ => by cases hf; exact ⟨slot s.nfts, Memory.read_write_self _ _ _⟩
        ackt := fun hctl => by cases hctl
        nout := fun hctl => by cases hctl }
  · rw [sendPacket_running htaken]
    exact
      { out := rfl
        conform := fun f hf => by cases hf; exact conforms_dataFrame s.nfts p s
        held := fun f hf _ => by cases hf; exact ⟨slot s.nfts, Memory.read_write_self _ _ _⟩
        ackt := fun _ _ _ => rfl
        nout := fun _ => seqDiff_inc_left hroom }

/-- Taking the item at the receive port is all that is reported so far. -/
theorem takeRx_reports {i : Instr} (s : State) (hi : i ≠ .nlr) :
    Reports i s s.takeRx { taken := [.takeRx] } where
  out := rfl
  nout := fun _ => by rw [if_neg hi]; rfl

/-- The NAK that was sent, if one was, and the deliveries. -/
theorem Receipt.reports {s : State} (r : Receipt s) :
    Reports .faData s r.drained
      { taken := [.takeRx]
        tx := if r.nak then some (controlFrame .nak 0 s).toWord else none
        dl := r.dl } := by
  have hnak : r.nak = true → s.noNak = true := fun h => (r.nak_iff.mp h).2
  cases hn : r.nak with
  | false =>
    exact
      { out := by simp [Receipt.drained, Machine.drained, afterDecision, Actions.outputs, hn]
        noNak := by simp [Receipt.drained, Machine.drained, afterDecision, Actions.sendsNak, hn]
        dl_length := r.dl_length
        dl_held := r.dl_held
        fe := rfl
        nout := fun _ => rfl }
  | true =>
    exact
      { out := by simp [Receipt.drained, Machine.drained, afterDecision, Actions.outputs, hn]
        conform := fun f hf => by cases hf; exact conforms_nakFrame s
        held := fun f hf hkind => by cases hf; cases (kind_toWord _).symm.trans hkind
        nak := fun _ => hnak hn
        noNak := by simp [Receipt.drained, Machine.drained, afterDecision, Actions.sendsNak, sentKind, hn]
        ackt := fun _ _ hdl => by
          simp only at hdl
          simp [Receipt.drained, Machine.drained, afterDecision, hn, hdl]
        dl_length := r.dl_length
        dl_held := r.dl_held
        fe := rfl
        nout := fun _ => rfl }

theorem exec_faData_reports {s t : State} (h : exec .faData s = .next t) :
    ∃ a, Reports .faData s t a := by
  obtain ⟨r, rfl | rfl⟩ := exec_faData_cases h
  · exact (r.reports.ackProcess r.f.ack).imp' _ fun _ => id
  · exact ⟨_, r.reports.raiseFault _⟩

theorem exec_faAck_reports {s t : State} (h : exec .faAck s = .next t) :
    ∃ a, Reports .faAck s t a := by
  obtain ⟨f, _, rfl⟩ := exec_faAck_next h
  exact ((takeRx_reports s (by simp)).ackProcess f.ack).imp' _ fun _ => id

theorem resendRequested_reports {i : Instr} {s u : State} {l : List Output} (a : Seq)
    (h : Reports i s u { taken := l }) :
    ∃ tx, Reports i s (resendRequested a u).state { taken := l, tx := tx } := by
  rw [resendRequested_eq]
  split
  · exact h.sendData _
  · exact ⟨none, h⟩

theorem exec_faNak_reports {s t : State} (h : exec .faNak s = .next t) :
    ∃ a, Reports .faNak s t a := by
  obtain ⟨f, _, htail⟩ := exec_faNak_next h
  obtain ⟨tx, hsent⟩ := resendRequested_reports f.ack (takeRx_reports (i := .faNak) s (by simp))
  rcases htail with ⟨v, hsend, rfl⟩ | hsend
  · rw [hsend, Flow.state_running] at hsent
    exact (hsent.ackProcess f.ack).imp' _ fun _ => id
  · rw [hsend, Flow.state_ended] at hsent
    exact ⟨_, hsent⟩

theorem exec_faRsvd_reports {s t : State} (h : exec .faRsvd s = .next t) :
    ∃ a, Reports .faRsvd s t a := by
  obtain ⟨f, _, rfl⟩ := exec_faRsvd_next h
  exact ⟨{ taken := [.takeRx], an := some AnomalyCause.rsvdKind.code },
    { out := rfl, nout := fun _ => by simp [State.nout, Actions.units] }⟩

theorem exec_cksum_reports {s t : State} (h : exec .cksum s = .next t) :
    ∃ a, Reports .cksum s t a := by
  obtain ⟨_, rfl⟩ := exec_cksum_next h
  split
  · next hnoNak =>
    exact ⟨{ taken := [.takeRx], tx := some (controlFrame .nak 0 s).toWord },
      { out := rfl
        conform := fun f hf => by cases hf; exact conforms_nakFrame s
        held := fun f hf hkind => by cases hf; cases (kind_toWord _).symm.trans hkind
        nak := fun _ => hnoNak
        noNak := by simp [Actions.sendsNak, sentKind]
        ackt := fun _ _ _ => rfl
        nout := fun _ => rfl }⟩
  · exact ⟨_, takeRx_reports s (by simp)⟩

theorem exec_timeout_reports {q : Seq} {s t : State} (h : exec (.timeout q) s = .next t) :
    ∃ a, Reports (.timeout q) s t a := by
  obtain ⟨_, _, rfl⟩ := exec_timeout_next h
  have hquiet : Reports (.timeout q) s (consumeTimeout s.sel s.begin) { taken := [] } :=
    { out := rfl
      noNak := rfl
      fe := (BitVec.add_zero s.fe).symm
      nout := fun _ => rfl }
  exact (hquiet.sendData q).imp' _ fun _ => id

theorem exec_ackto_reports {s t : State} (h : exec .ackto s = .next t) :
    ∃ a, Reports .ackto s t a := by
  obtain ⟨_, rfl⟩ := exec_ackto_next h
  exact ⟨{ tx := some (controlFrame .ack 0 s).toWord },
    { out := rfl
      conform := fun f hf => by cases hf; exact conforms_ackFrame s
      held := fun f hf hkind => by cases hf; cases (kind_toWord _).symm.trans hkind
      nak := by simp [Actions.sendsNak, sentKind]
      noNak := by simp [Actions.sendsNak, sentKind]
      ackt := fun _ _ _ => rfl
      nout := fun _ => rfl }⟩

theorem unrecognizedEvent_reports {i : Instr} {s t : State} (h : unrecognizedEvent s = .next t)
    (hi : i ≠ .nlr) : ∃ a, Reports i s t a := by
  obtain ⟨_, rfl⟩ := unrecognizedEvent_next h
  exact ⟨{ an := some AnomalyCause.unrecognizedEvent.code },
    { out := rfl, nout := fun _ => by rw [if_neg hi]; rfl }⟩

theorem exec_reports {i : Instr} {s t : State} (h : exec i s = .next t) : ∃ a, Reports i s t a := by
  cases i with
  | nlr => exact exec_nlr_reports h
  | faData => exact exec_faData_reports h
  | faAck => exact exec_faAck_reports h
  | faNak => exact exec_faNak_reports h
  | faRsvd => exact exec_faRsvd_reports h
  | cksum => exact exec_cksum_reports h
  | timeout q => exact exec_timeout_reports h
  | ackto => exact exec_ackto_reports h
  | rsvd5 => exact unrecognizedEvent_reports h (by simp)
  | rsvd6 => exact unrecognizedEvent_reports h (by simp)
  | rsvd7 => exact unrecognizedEvent_reports h (by simp)

/-! ### The statements -/

/-- Settles O45. -/
theorem transmittedFramesConform : Obligations.TransmittedFramesConform := by
  unfold Obligations.TransmittedFramesConform
  intro i s t f h hmem
  obtain ⟨a, hrep⟩ := exec_reports h
  exact hrep.conform f ((hrep.tx_mem_iff f).mp hmem)

/-- Settles O47: the report says what `NO_NAK` is, by whether there was a delivery and whether a NAK. -/
theorem nakSuppression : Obligations.NakSuppression := by
  unfold Obligations.NakSuppression
  intro i s t h
  obtain ⟨a, hrep⟩ := exec_reports h
  rw [hrep.exists_nak_iff, hrep.exists_deliver_iff, hrep.forall_not_deliver_iff,
    hrep.forall_not_nak_iff, hrep.noNak]
  refine ⟨hrep.nak, fun hnak hdl => ?_, fun hdl hnak => ?_, fun hdl => if_pos hdl⟩
  · rw [if_neg (not_not.mpr hdl), if_pos hnak]
  · rw [if_neg (not_not.mpr hdl), hnak]
    rfl

/-- Settles O48. -/
theorem transmissionCancelsTheAckTimer : Obligations.TransmissionCancelsTheAckTimer := by
  unfold Obligations.TransmissionCancelsTheAckTimer
  intro i s t h hctl htx hdl
  obtain ⟨a, hrep⟩ := exec_reports h
  exact hrep.ackt hctl (hrep.exists_tx_iff.mp htx) (hrep.forall_not_deliver_iff.mp hdl)

/-- Settles O49: credit and outstanding frames make up the window before and after, and the report says
what becomes of the outstanding ones. -/
theorem creditIsConserved : Obligations.CreditIsConserved := by
  unfold Obligations.CreditIsConserved
  intro i s t hwindow h hctl
  obtain ⟨a, hrep⟩ := exec_reports h
  have hnout := hrep.nout hctl
  have hbefore := credit_add_nout hwindow
  have hafter := credit_add_nout (exec_windowOk hwindow h)
  rw [hrep.units_sum]
  omega

/-- Settles O50: at most 4 deliveries do not wrap around. -/
theorem deliveriesAdvanceTheReceiver : Obligations.DeliveriesAdvanceTheReceiver := by
  unfold Obligations.DeliveriesAdvanceTheReceiver
  intro i s t h
  obtain ⟨a, hrep⟩ := exec_reports h
  have hlt : a.dl.length < 8 := Nat.lt_of_le_of_lt hrep.dl_length (by decide)
  rw [hrep.deliveries_length, hrep.fe, seqDiff_add_left s.fe hlt]

end Sys2Proof.Machine
end

section
/-! SUPPORT. Single events in particular states: the faults of NETWORK_LAYER_READY, TIMEOUT and the drain
loop (60_exceptions R221 to R225), the discarded DATA frame (43_protocol_engine R176), and the timers an
acknowledgement leaves (41_timer_manager R135). -/

namespace Sys2Proof.Machine

/-- Settles O30. -/
theorem nlrSlotReuseFault : Obligations.NlrSlotReuseFault := by
  unfold Obligations.NlrSlotReuseFault
  intro s p hctl hnl hroom hlive htag
  have htaken : Taken s.takeNl.nfts s.takeNl := ⟨hlive, htag⟩
  rw [exec_nlr_of_offered ((offered_iff s p).mpr ⟨hctl, hroom, hnl⟩), sendPacket_ended htaken]
  rfl

/-- Settles O39: the expiry is consumed before the slot is read. -/
theorem timeoutOfUnwrittenSlotFaults : Obligations.TimeoutOfUnwrittenSlotFaults := by
  unfold Obligations.TimeoutOfUnwrittenSlotFaults
  rintro s q hctl hpend rfl hread
  rw [exec_timeout_of_expired ((expired_iff _ s).mpr ⟨hctl, hpend⟩),
    sendData_of_read_none (s := consumeTimeout s.sel s.begin) hread]
  rfl

theorem not_deliver_of_fe_eq {i : Instr} {s t : State} (h : exec i s = .next t) (hfe : t.fe = s.fe)
    (p : Packet) : Output.deliver p ∉ t.out := by
  have hnone := deliveriesAdvanceTheReceiver i s t h
  rw [hfe, seqDiff_self, List.length_eq_zero_iff, List.filter_eq_nil_iff] at hnone
  exact fun hmem => hnone _ hmem rfl

/-- Settles O32: without acceptance nothing of the receiving side is touched, and without an advance of
`FE` nothing is delivered. -/
theorem unacceptedDataFrameIsDiscarded : Obligations.UnacceptedDataFrameIsDiscarded := by
  unfold Obligations.UnacceptedDataFrameIsDiscarded
  intro s f hctl hrx hkind hnot
  obtain ⟨nak, hnak⟩ := exists_nak_decision f s
  have haccept : acceptFrame f (afterDecision nak s) = .running (afterDecision nak s) :=
    acceptFrame_of_not_accepted hnot
  have hexec := exec_faData_of_accept ((arriving_iff _ _ _).mpr ⟨hctl, hrx, hkind⟩)
    (nakOrDelay_takeRx hnak) haccept
  obtain ⟨ae, rtx, out, hack⟩ := ackProcess_frame f.ack (afterDecision nak s)
  rw [hack] at hexec
  exact ⟨_, hexec, rfl, rfl, rfl, hctl, not_deliver_of_fe_eq hexec rfl⟩

/-- A fault while the frame is accepted ends FRAME_ARRIVAL; the acknowledgement is not processed. -/
theorem exec_faData_of_fault {s u v : State} {f : FrameWord} (h : s.arriving .data = some f)
    (hdecide : nakOrDelay f s.takeRx = .running u) (hfault : acceptFrame f u = .ended v) :
    exec .faData s = .next v := by
  simp only [exec, execFaData, h, hdecide, hfault, Flow.andThen_running, Flow.andThen_ended,
    Flow.outcome_eq, Flow.state_ended]

/-- The next number's slot is another one. -/
theorem slot_succ_ne (q : Seq) : slot (q + 1#3) ≠ slot q := by
  revert q
  decide

/-- An in-order frame is accepted unless its slot is already arrived. -/
theorem accepted_of_inOrder {f : FrameWord} {s : State} (hseq : f.seq = s.fe)
    (harr : s.arrived.get (slot s.fe) = false) : Accepted f s := by
  have hin : between s.fe s.fe (s.fe + 4#3) = true := by
    generalize s.fe = q
    revert q
    decide
  exact ⟨by rwa [hseq, tf_eq], by rwa [hseq]⟩

/-- Settles O33: the first iteration of the drain loop delivers the frame itself, the second one meets the
slot without a value. -/
theorem drainOfUnwrittenSlotFaults : Obligations.DrainOfUnwrittenSlotFaults := by
  unfold Obligations.DrainOfUnwrittenSlotFaults
  intro s f hctl hrx hkind hseq hfree harr hread
  rw [inc_eq] at harr hread ⊢
  have hne := slot_succ_ne s.fe
  have hnak : false = true ↔ f.seq ≠ s.fe ∧ s.noNak = true := by simp [hseq]
  have hacc : Accepted f (afterDecision false s) := accepted_of_inOrder hseq hfree
  have hfirst : drain 4 (storeArrived f (afterDecision false s)) =
      drain 3 (deliverOne f.payload (storeArrived f (afterDecision false s))) := by
    refine drain_deliver 3 ?_ ?_
    · simp [storeArrived, afterDecision, hseq]
    · simp [storeArrived, afterDecision, hseq]
  have hsecond := drain_fault 2
    (s := deliverOne f.payload (storeArrived f (afterDecision false s)))
    (by simpa [deliverOne_eq, storeArrived, afterDecision, hseq, Quad.get_set, hne] using harr)
    (by simpa [deliverOne_eq, storeArrived, afterDecision, hseq, Memory.read_write, hne] using hread)
  have haccept := (acceptFrame_of_accepted hacc).trans (hfirst.trans hsecond)
  rw [exec_faData_of_fault ((arriving_iff _ _ _).mpr ⟨hctl, hrx, hkind⟩) (nakOrDelay_takeRx hnak)
    haccept, deliverOne_eq, storeArrived, hseq]
  rfl

/-- Settles O51: an entry that carries an acknowledged number in that number's slot is cancelled. -/
theorem acknowledgedFrameHasNoExpiry : Obligations.AcknowledgedFrameHasNoExpiry := by
  unfold Obligations.AcknowledgedFrameHasNoExpiry
  rintro s t f q hrx h hin hq ⟨hlive, htag⟩
  obtain ⟨g, harr, rfl⟩ := exec_faAck_next h
  cases hrx.symm.trans ((arriving_iff _ _ _).mp harr).2.1
  rw [inc_eq] at hq
  have hrtx := (ackProcess_effect f.ack s.takeRx).rtx (slot q)
  split at hrtx
  · rw [hrtx] at hlive
    cases hlive
  · next hkept =>
    rw [hrtx] at htag
    exact hkept ⟨hin, by rw [htag], by rw [htag]; exact hq⟩

end Sys2Proof.Machine
end

section
/-! SUPPORT. The timers over time (41_timer_manager R123, R127, R133): any number of ticks, entry by entry;
and what every step keeps, packaged once: the canonical buffers, the sound timers, the timeouts. -/

namespace Sys2Proof.Machine

/-! ### Ticks in a row -/

theorem ticks_rtx_get (n : Nat) (s : State) (e : Slot) :
    (s.ticks n).rtx.get e = (RtxEntry.tick (timerWidth s.timeouts))^[n] (s.rtx.get e) := by
  induction n generalizing s with
  | zero => rfl
  | succ n ih =>
    rw [State.ticks, ih, State.tick_rtx_get, State.tick_timeouts, Function.iterate_succ_apply]

theorem ticks_ackt (n : Nat) (s : State) :
    (s.ticks n).ackt = (AckTimer.tick (timerWidth s.timeouts))^[n] s.ackt := by
  induction n generalizing s with
  | zero => rfl
  | succ n ih =>
    rw [State.ticks, ih, State.tick_ackt, State.tick_timeouts, Function.iterate_succ_apply]

theorem ticks_ctl (n : Nat) (s : State) : (s.ticks n).ctl = s.ctl := by
  induction n generalizing s with
  | zero => rfl
  | succ n ih => rw [State.ticks, ih, State.tick_ctl]

/-- 41 R123: an armed entry counts down to its expiry, which then stays. -/
theorem RtxEntry.tick_iterate {w : Nat} (n : Nat) {x : RtxEntry} (harmed : x.armed = true)
    (hpend : x.pending = false) (hpos : 1 ≤ x.count) (hlt : x.count < 2 ^ w) :
    (RtxEntry.tick w)^[n] x =
      if n < x.count then { x with count := x.count - n }
      else { x with armed := false, count := 0, pending := true } := by
  induction n generalizing x with
  | zero =>
    exact (if_pos hpos).symm
  | succ n ih =>
    rw [Function.iterate_succ_apply, RtxEntry.tick_armed harmed hpos hlt]
    by_cases hlast : x.count - 1 = 0
    · have hover : ¬ n + 1 < x.count :=
        Nat.not_lt.mpr (Nat.le_add_left_of_le (Nat.sub_eq_zero_iff_le.mp hlast))
      rw [if_pos hlast, if_neg hover, Function.iterate_fixed (RtxEntry.tick_idle rfl)]
    · rw [if_neg hlast, ih (x := { x with count := x.count - 1 }) harmed hpend
        (Nat.pos_of_ne_zero hlast) (Nat.lt_of_le_of_lt (Nat.sub_le _ _) hlt)]
      refine if_congr Nat.lt_sub_iff_add_lt ?_ rfl
      rw [Nat.sub_sub, Nat.add_comm]

/-- 41 R133: the same of the acknowledgement timer. -/
theorem AckTimer.tick_iterate {w : Nat} (n : Nat) {x : AckTimer} (harmed : x.armed = true)
    (hpend : x.pending = false) (hpos : 1 ≤ x.count) (hlt : x.count < 2 ^ w) :
    (AckTimer.tick w)^[n] x =
      if n < x.count then { x with count := x.count - n }
      else { armed := false, count := 0, pending := true } := by
  induction n generalizing x with
  | zero =>
    exact (if_pos hpos).symm
  | succ n ih =>
    rw [Function.iterate_succ_apply, AckTimer.tick_armed harmed hpos hlt]
    by_cases hlast : x.count - 1 = 0
    · have hover : ¬ n + 1 < x.count :=
        Nat.not_lt.mpr (Nat.le_add_left_of_le (Nat.sub_eq_zero_iff_le.mp hlast))
      rw [if_pos hlast, if_neg hover, Function.iterate_fixed (AckTimer.tick_idle rfl)]
    · rw [if_neg hlast, ih (x := { x with count := x.count - 1 }) harmed hpend
        (Nat.pos_of_ne_zero hlast) (Nat.lt_of_le_of_lt (Nat.sub_le _ _) hlt)]
      refine if_congr Nat.lt_sub_iff_add_lt ?_ rfl
      rw [Nat.sub_sub, Nat.add_comm]

/-- Settles O25. -/
theorem retransmitTimerExpiresOnTime : Obligations.RetransmitTimerExpiresOnTime := by
  unfold Obligations.RetransmitTimerExpiresOnTime
  intro s e n harmed hpend hpos hlt
  rw [ticks_rtx_get, RtxEntry.tick_iterate n harmed hpend hpos hlt]
  by_cases hn : n < (s.rtx.get e).count
  · simp only [if_pos hn]
    exact ⟨trivial, harmed, hpend, trivial⟩
  · simp only [if_neg hn, and_self]

/-- Settles O26. -/
theorem ackTimerExpiresOnTime : Obligations.AckTimerExpiresOnTime := by
  unfold Obligations.AckTimerExpiresOnTime
  intro s n harmed hpend hpos hlt
  rw [ticks_ackt, AckTimer.tick_iterate n harmed hpend hpos hlt]
  by_cases hn : n < s.ackt.count
  · simp only [if_pos hn]
    exact ⟨harmed, hpend, trivial⟩
  · simp only [if_neg hn, and_self]

/-- An NLR step that ends in `WAIT` armed the timer of the number it sent (43 R172). -/
theorem armed_of_exec_nlr {s t : State} (h : exec .nlr s = .next t) (hctl : t.ctl = .wait) :
    t.rtx.get (slot s.nfts) = RtxEntry.armedFor t.timeouts s.nfts ∧ t.timeouts = s.timeouts := by
  obtain ⟨p, _, rfl⟩ := exec_nlr_next h
  by_cases htaken : Taken s.takeNl.nfts s.takeNl
  · rw [sendPacket_ended htaken] at hctl
    cases hctl
  · rw [sendPacket_running htaken]
    exact ⟨Quad.get_set_self _ _ _, rfl⟩

/-- Settles O27: the entry starts at `T_RTX`, and its expiry is what makes the event eligible. -/
theorem unacknowledgedFrameIsDueAfterTimeout : Obligations.UnacknowledgedFrameIsDueAfterTimeout := by
  unfold Obligations.UnacknowledgedFrameIsDueAfterTimeout
  intro s t n h hctl
  obtain ⟨harmed, htimeouts⟩ := armed_of_exec_nlr h hctl
  have hentry := RtxEntry.tick_iterate n (x := RtxEntry.armedFor t.timeouts s.nfts) rfl rfl
    t.timeouts.rtx_pos (rtx_lt_width t.timeouts)
  rw [← harmed, ← ticks_rtx_get, harmed] at hentry
  have heligible : eligible (.retransmit (slot s.nfts)) (t.ticks n) = true ↔
      (t.ticks n).ctl = .wait ∧ ((t.ticks n).rtx.get (slot s.nfts)).pending = true :=
    eligibleExactlyWhenTheSourceHolds.1 (t.ticks n) (.retransmit (slot s.nfts))
  rw [heligible, ticks_ctl, hentry, ← htimeouts]
  by_cases hn : n < t.timeouts.rtx
  · rw [if_pos (show n < (RtxEntry.armedFor t.timeouts s.nfts).count from hn)]
    exact ⟨by simp [RtxEntry.armedFor, hn], rfl⟩
  · rw [if_neg (show ¬ n < (RtxEntry.armedFor t.timeouts s.nfts).count from hn)]
    exact ⟨by simp [hctl, Nat.not_lt.mp hn], rfl⟩

/-! ### What every step keeps -/

/-- The states differ at most in the ports, the outputs and the model's own fields. -/
def SameEngine (s u : State) : Prop :=
  u = { s with nl := u.nl, rx := u.rx, out := u.out, sel := u.sel, agenda := u.agenda, turn := u.turn }

/-- A property of the block that its events, a tick and a reset keep, and that reads neither the ports nor
the outputs nor the model's own fields. -/
structure Kept (P : State → Prop) : Prop where
  same : ∀ {s u}, SameEngine s u → P s → P u
  exec : ∀ {i s t}, P s → exec i s = .next t → P t
  tick : ∀ {s}, P s → P s.tick
  reset : ∀ {s}, P s → P s.applyReset

section
variable {P : State → Prop} {s t : State}

theorem Kept.makeMove (hP : Kept P) {m : Move} (hs : P s) (h : makeMove m s = .next t) : P t := by
  rcases makeMove_cases h with ⟨i, e, hexec⟩ | rfl | rfl | ⟨p, _, _, rfl⟩ | ⟨x, _, _, rfl⟩
  · have hsel : P (s.setSel e) := hP.same rfl hs
    exact hP.exec hsel hexec
  · exact hP.tick hs
  · exact hP.reset hs
  · exact hP.same (s := s) rfl hs
  · exact hP.same (s := s) rfl hs

theorem Kept.step (hP : Kept P) (hs : P s) (h : step s = .next t) : P t := by
  rcases step_cases h with ⟨m, rest, _, hmove⟩ | ⟨_, m, _, hmove⟩ | ⟨_, rfl⟩
  · have hagenda : P (s.setAgenda rest) := hP.same rfl hs
    exact hP.makeMove hagenda hmove
  · have hturn : P (s.setTurn (s.turn + 1)) := hP.same rfl hs
    exact hP.makeMove hturn hmove
  · exact hP.same (s := s) rfl hs

end

/-! ### The buffers' canonical form -/

theorem exec_buffersOk {i : Instr} {s t : State} (hs : BuffersOk s) (h : exec i s = .next t) :
    BuffersOk t where
  inBuf := by
    rcases exec_inBuf h with hsame | ⟨_, f, _, _, hwrite⟩
    · rw [hsame]
      exact hs.inBuf
    · rw [hwrite]
      exact Memory.wf_write _ _ hs.inBuf
  outBuf := by
    rcases exec_outBuf h with ⟨_, hsame⟩ | ⟨_, p, _, hwrite⟩
    · rw [hsame]
      exact hs.outBuf
    · rw [hwrite]
      exact Memory.wf_write _ _ hs.outBuf

theorem kept_buffersOk : Kept BuffersOk where
  same hsame hs := by rw [hsame]; exact ⟨hs.inBuf, hs.outBuf⟩
  exec := exec_buffersOk
  tick hs := ⟨hs.inBuf, hs.outBuf⟩
  reset _ := ⟨rfl, rfl⟩

/-- Settles O54. -/
theorem stepKeepsBuffersCanonical : Obligations.StepKeepsBuffersCanonical := by
  unfold Obligations.StepKeepsBuffersCanonical
  exact fun _ _ => kept_buffersOk.step

/-! ### The timers -/

/-- A timer that does not run, with count 0, is sound. -/
theorem RtxEntry.idle_ok (t : Timeouts) (q : Seq) (pending : Bool) :
    RtxEntry.ok t { armed := false, tag := q, count := 0, pending := pending } = true :=
  (RtxEntry.ok_iff _ _).mpr ⟨by simp, by simp, Nat.two_pow_pos _⟩

theorem AckTimer.idle_ok (t : Timeouts) (pending : Bool) :
    AckTimer.ok t { armed := false, count := 0, pending := pending } = true :=
  (AckTimer.ok_iff _ _).mpr ⟨by simp, by simp, Nat.two_pow_pos _⟩

theorem RtxEntry.consumed_ok {t : Timeouts} {x : RtxEntry} (h : x.ok t = true) :
    RtxEntry.ok t { x with pending := false } = true := by
  obtain ⟨_, hrange, hfits⟩ := (RtxEntry.ok_iff _ _).mp h
  exact (RtxEntry.ok_iff _ _).mpr ⟨by simp, hrange, hfits⟩

theorem RtxEntry.tick_ok {t : Timeouts} {x : RtxEntry} (h : x.ok t = true) :
    (x.tick (timerWidth t)).ok t = true := by
  obtain ⟨hone, hrange, hfits⟩ := (RtxEntry.ok_iff _ _).mp h
  cases harmed : x.armed with
  | false => rwa [RtxEntry.tick_idle harmed]
  | true =>
    obtain ⟨hpos, hle⟩ := hrange harmed
    rw [RtxEntry.tick_armed harmed hpos hfits]
    split
    · exact RtxEntry.idle_ok t _ _
    · next hmore =>
      exact (RtxEntry.ok_iff _ _).mpr ⟨hone,
        fun _ => ⟨Nat.pos_of_ne_zero hmore, Nat.le_trans (Nat.sub_le _ _) hle⟩,
        Nat.lt_of_le_of_lt (Nat.sub_le _ _) hfits⟩

theorem AckTimer.tick_ok {t : Timeouts} {x : AckTimer} (h : x.ok t = true) :
    (x.tick (timerWidth t)).ok t = true := by
  obtain ⟨hone, hrange, hfits⟩ := (AckTimer.ok_iff _ _).mp h
  cases harmed : x.armed with
  | false => rwa [AckTimer.tick_idle harmed]
  | true =>
    obtain ⟨hpos, hle⟩ := hrange harmed
    rw [AckTimer.tick_armed harmed hpos hfits]
    split
    · exact AckTimer.idle_ok t _
    · next hmore =>
      exact (AckTimer.ok_iff _ _).mpr ⟨hone,
        fun _ => ⟨Nat.pos_of_ne_zero hmore, Nat.le_trans (Nat.sub_le _ _) hle⟩,
        Nat.lt_of_le_of_lt (Nat.sub_le _ _) hfits⟩

section
variable {s t : State}

/-- What replaces one entry by a sound one, and leaves the acknowledgement timer or replaces it by a sound
one, keeps the timers sound. -/
theorem TimersOk.replace (h : TimersOk s) {e : Slot} {x : RtxEntry}
    (htimeouts : t.timeouts = s.timeouts) (hrtx : t.rtx = s.rtx.set e x)
    (hx : x.ok s.timeouts = true) (hackt : t.ackt.ok s.timeouts = true) : TimersOk t where
  entries d := by
    rw [htimeouts, hrtx, Quad.get_set]
    split
    · exact hx
    · exact h.entries d
  ack := by rwa [htimeouts]

/-- What leaves the table keeps the timers sound with a sound acknowledgement timer. -/
theorem TimersOk.of_rtx_eq (h : TimersOk s) (htimeouts : t.timeouts = s.timeouts) (hrtx : t.rtx = s.rtx)
    (hackt : t.ackt.ok s.timeouts = true) : TimersOk t where
  entries d := by rw [htimeouts, hrtx]; exact h.entries d
  ack := by rwa [htimeouts]

theorem TimersOk.ackProcess (h : TimersOk s) (a : Seq) : TimersOk (ackProcess a s) := by
  have hentry := (ackProcess_effect a s).rtx
  obtain ⟨ae, rtx, out, hack⟩ := ackProcess_frame a s
  rw [hack] at hentry ⊢
  refine ⟨fun e => ?_, h.ack⟩
  rw [hentry e]
  split
  · exact RtxEntry.idle_ok _ _ _
  · exact h.entries e

theorem TimersOk.sendData (h : TimersOk s) (nr : Seq) : TimersOk (sendData nr s).state := by
  rcases sendData_cases nr s with ⟨_, hsend⟩ | ⟨p, _, _, hsend⟩ | ⟨p, _, _, hsend⟩ <;> rw [hsend]
  · exact h.of_rtx_eq rfl rfl h.ack
  · exact h.of_rtx_eq rfl rfl h.ack
  · exact h.replace rfl rfl (RtxEntry.armedFor_ok _ _) (AckTimer.idle_ok _ _)

theorem TimersOk.resendRequested (h : TimersOk s) (a : Seq) :
    TimersOk (resendRequested a s).state := by
  rw [resendRequested_eq]
  split
  · exact h.sendData _
  · exact h

theorem exec_nlr_timersOk (hs : TimersOk s) (h : exec .nlr s = .next t) : TimersOk t := by
  obtain ⟨p, _, rfl⟩ := exec_nlr_next h
  by_cases htaken : Taken s.takeNl.nfts s.takeNl
  · rw [sendPacket_ended htaken]
    exact hs.of_rtx_eq rfl rfl hs.ack
  · rw [sendPacket_running htaken]
    exact hs.replace rfl rfl (RtxEntry.armedFor_ok _ _) (AckTimer.idle_ok _ _)

/-- The decision about a NAK and the deliveries leave the acknowledgement timer idle or started. -/
theorem Receipt.timersOk (r : Receipt s) (hs : TimersOk s) : TimersOk r.drained := by
  have hackt : r.drained.ackt = AckTimer.idle ∨ r.drained.ackt = AckTimer.started s.timeouts := by
    simp only [Receipt.drained, Machine.drained, afterDecision]
    split
    · split
      · exact .inl rfl
      · exact .inr rfl
    · exact .inr rfl
  refine hs.of_rtx_eq rfl rfl ?_
  rcases hackt with hidle | hstarted
  · rw [hidle]
    exact AckTimer.idle_ok _ _
  · rw [hstarted]
    exact AckTimer.started_ok _

theorem exec_faData_timersOk (hs : TimersOk s) (h : exec .faData s = .next t) : TimersOk t := by
  obtain ⟨r, rfl | rfl⟩ := exec_faData_cases h
  · exact (r.timersOk hs).ackProcess _
  · exact (r.timersOk hs).of_rtx_eq rfl rfl (r.timersOk hs).ack

theorem exec_faNak_timersOk (hs : TimersOk s) (h : exec .faNak s = .next t) : TimersOk t := by
  obtain ⟨f, _, htail⟩ := exec_faNak_next h
  have htaken : TimersOk s.takeRx := hs.of_rtx_eq rfl rfl hs.ack
  exact keeps_of_ack_last (fun v hv => hv.ackProcess f.ack) (htaken.resendRequested f.ack) htail

theorem exec_cksum_timersOk (hs : TimersOk s) (h : exec .cksum s = .next t) : TimersOk t := by
  obtain ⟨_, rfl⟩ := exec_cksum_next h
  split
  · exact hs.of_rtx_eq rfl rfl (AckTimer.idle_ok _ _)
  · exact hs.of_rtx_eq rfl rfl hs.ack

theorem exec_timeout_timersOk {q : Seq} (hs : TimersOk s) (h : exec (.timeout q) s = .next t) :
    TimersOk t := by
  obtain ⟨_, _, rfl⟩ := exec_timeout_next h
  have hconsumed : TimersOk (consumeTimeout s.sel s.begin) :=
    hs.replace rfl rfl (RtxEntry.consumed_ok (hs.entries s.sel)) hs.ack
  exact hconsumed.sendData q

theorem unrecognizedEvent_timersOk (hs : TimersOk s) (h : unrecognizedEvent s = .next t) :
    TimersOk t := by
  obtain ⟨_, rfl⟩ := unrecognizedEvent_next h
  exact hs.of_rtx_eq rfl rfl hs.ack

theorem exec_timersOk {i : Instr} (hs : TimersOk s) (h : exec i s = .next t) : TimersOk t := by
  cases i with
  | nlr => exact exec_nlr_timersOk hs h
  | faData => exact exec_faData_timersOk hs h
  | faAck =>
    obtain ⟨f, _, rfl⟩ := exec_faAck_next h
    have htaken : TimersOk s.takeRx := hs.of_rtx_eq rfl rfl hs.ack
    exact htaken.ackProcess f.ack
  | faNak => exact exec_faNak_timersOk hs h
  | faRsvd =>
    obtain ⟨f, _, rfl⟩ := exec_faRsvd_next h
    exact hs.of_rtx_eq (by simp) (by simp) (by simpa using hs.ack)
  | cksum => exact exec_cksum_timersOk hs h
  | timeout q => exact exec_timeout_timersOk hs h
  | ackto =>
    obtain ⟨_, rfl⟩ := exec_ackto_next h
    exact hs.of_rtx_eq rfl rfl (AckTimer.idle_ok _ _)
  | rsvd5 => exact unrecognizedEvent_timersOk hs h
  | rsvd6 => exact unrecognizedEvent_timersOk hs h
  | rsvd7 => exact unrecognizedEvent_timersOk hs h

end

theorem State.tick_timersOk {s : State} (hs : TimersOk s) : TimersOk s.tick where
  entries e := by
    rw [State.tick_rtx_get, State.tick_timeouts]
    exact RtxEntry.tick_ok (hs.entries e)
  ack := AckTimer.tick_ok hs.ack

theorem State.resetWith_timersOk (c : Timeouts) : TimersOk (State.resetWith c) where
  entries e := by
    obtain ⟨_, _, _, hidle⟩ := State.resetWith_slot c e
    rw [hidle]
    exact RtxEntry.idle_ok _ _ _
  ack := AckTimer.idle_ok _ _

theorem kept_timersOk : Kept TimersOk where
  same hsame hs := by rw [hsame]; exact hs.of_rtx_eq rfl rfl hs.ack
  exec := exec_timersOk
  tick := State.tick_timersOk
  reset {s} _ := (State.resetWith_timersOk s.timeouts).of_rtx_eq rfl rfl (AckTimer.idle_ok _ _)

theorem exec_timeouts {i : Instr} {s t : State} (h : exec i s = .next t) :
    t.timeouts = s.timeouts := by
  cases exec_writes h <;> rfl

theorem kept_timeouts (c : Timeouts) : Kept fun s => s.timeouts = c where
  same hsame hs := by rw [hsame]; exact hs
  exec hs h := (exec_timeouts h).trans hs
  tick hs := hs
  reset hs := hs

/-- 00 R10: no narrower counter holds both timeouts. -/
theorem timerWidth_le {c : Timeouts} {w : Nat} (h : max c.rtx c.ack < 2 ^ w) : timerWidth c ≤ w := by
  have hne : max c.rtx c.ack ≠ 0 :=
    Nat.pos_iff_ne_zero.mp (Nat.lt_of_lt_of_le c.rtx_pos (Nat.le_max_left _ _))
  exact (Nat.log2_lt hne).mpr h

/-- Settles O55. -/
theorem stepKeepsTimersSound : Obligations.StepKeepsTimersSound := by
  unfold Obligations.StepKeepsTimersSound
  refine ⟨fun s t => (kept_timeouts s.timeouts).step rfl, fun s t => kept_timersOk.step,
    fun c => ⟨c.rtx_pos, c.ack_pos, ?_, fun w => timerWidth_le⟩, rfl, rfl, ?_⟩
  · exact Nat.max_lt.mpr ⟨rtx_lt_width c, ack_lt_width c⟩
  · decide

end Sys2Proof.Machine
end

section
/-! SUPPORT. The engine invariant (70_reset R243 to R247), kept by every step: its sending half, which
acknowledgements, resends and new frames keep, and its receiving half, which arrivals keep. That no fault
is raised comes with the closed forms of the events, whose premises the invariant gives. -/

namespace Sys2Proof.Machine

/-! ### The sending half -/

/-- R246(c), (d), R247: the live timers are those of the outstanding numbers, which are held. -/
structure SenderOk (s : State) : Prop where
  liveOutstanding : ∀ e : Slot, (s.rtx.get e).live = true →
    slot (s.rtx.get e).tag = e ∧ s.outstanding (s.rtx.get e).tag = true
  outstandingLive : ∀ q : Seq, s.outstanding q = true →
    (s.rtx.get (slot q)).live = true ∧ (s.rtx.get (slot q)).tag = q
  outstandingHeld : ∀ q : Seq, s.outstanding q = true → (s.outBuf.read (slot q)).isSome = true

/-- The comparator reads distances only (40 R104). -/
theorem between_sub (c a x b : Seq) : between (a - c) (x - c) (b - c) = between a x b := by
  rw [Bool.eq_iff_iff, between_iff, between_iff, sub_sub_sub_cancel_right, sub_sub_sub_cancel_right]

/-- What is outstanding after the acknowledgement of `a`: what was, but for the numbers up to `a`. -/
theorem between_acked_iff {ae a nfts : Seq} (q : Seq) (h : between ae a nfts = true) :
    between (a + 1#3) q nfts = true ↔ between ae q nfts = true ∧ between ae q (a + 1#3) = false := by
  have hzero : ∀ x y z : Seq, between 0 y z = true →
      (between (y + 1#3) x z = true ↔ between 0 x z = true ∧ between 0 x (y + 1#3) = false) := by
    decide
  have hshift := hzero (q - ae) (a - ae) (nfts - ae)
  rw [← sub_self ae, ← add_sub_right_comm] at hshift
  simp only [between_sub] at hshift
  exact hshift h

/-- What is outstanding after a new frame: what was, and its number (43 R172). -/
theorem between_sent_iff {ae nfts : Seq} (q : Seq) (h : seqDiff nfts ae < Config.nrBufs) :
    between ae q (nfts + 1#3) = true ↔ between ae q nfts = true ∨ q = nfts := by
  revert ae nfts q
  decide

section
variable {s u t : State}

theorem SenderOk.of_eq (h : SenderOk s) (hae : t.ae = s.ae) (hnfts : t.nfts = s.nfts)
    (hrtx : t.rtx = s.rtx) (hbuf : t.outBuf = s.outBuf) : SenderOk t := by
  have hout : t.outstanding = s.outstanding := by funext q; rw [State.outstanding, hae, hnfts]; rfl
  constructor
  · rw [hrtx, hout]; exact h.liveOutstanding
  · rw [hrtx, hout]; exact h.outstandingLive
  · rw [hbuf, hout]; exact h.outstandingHeld

/-- A timer of another slot belongs to another outstanding number. -/
theorem SenderOk.eq_of_slot_eq (h : SenderOk s) {q r : Seq} (hq : s.outstanding q = true)
    (hr : s.outstanding r = true) (hslot : slot q = slot r) : q = r :=
  calc q
    _ = (s.rtx.get (slot q)).tag := (h.outstandingLive q hq).2.symm
    _ = (s.rtx.get (slot r)).tag := by rw [hslot]
    _ = r := (h.outstandingLive r hr).2

/-- Arming the timer of an outstanding number again (42 R156). -/
theorem SenderOk.rearm (h : SenderOk s) {q : Seq} {x : RtxEntry} (hq : s.outstanding q = true)
    (hlive : x.live = true) (htag : x.tag = q) (hae : t.ae = s.ae) (hnfts : t.nfts = s.nfts)
    (hrtx : t.rtx = s.rtx.set (slot q) x) (hbuf : t.outBuf = s.outBuf) : SenderOk t := by
  have hout : t.outstanding = s.outstanding := by funext q; rw [State.outstanding, hae, hnfts]; rfl
  constructor
  · intro e
    rw [hrtx, hout, Quad.get_set]
    split
    · next he => exact fun _ => ⟨by rw [htag, he], by rw [htag, hq]⟩
    · exact h.liveOutstanding e
  · intro r hr
    rw [hout] at hr
    rw [hrtx, Quad.get_set]
    split
    · next hslot => exact ⟨hlive, htag.trans (h.eq_of_slot_eq hq hr hslot.symm)⟩
    · exact h.outstandingLive r hr
  · rw [hbuf, hout]
    exact h.outstandingHeld

/-- Acknowledging cancels exactly the timers of the numbers that are then no longer outstanding. -/
theorem SenderOk.of_ackEffect (h : SenderOk u) {a : Seq} (heffect : AckEffect a u t) : SenderOk t := by
  have hnfts : t.nfts = u.nfts := by rw [heffect.frame]
  have hbuf : t.outBuf = u.outBuf := by rw [heffect.frame]
  have hae := heffect.ae
  by_cases hin : between u.ae a u.nfts = true
  · rw [if_pos hin] at hae
    have hout : ∀ q, t.outstanding q = true ↔
        u.outstanding q = true ∧ between u.ae q (a + 1#3) = false := fun q => by
      rw [State.outstanding, hae, hnfts]
      exact between_acked_iff q hin
    constructor
    · intro e hlive
      have hentry := heffect.rtx e
      split at hentry
      · rw [hentry] at hlive
        cases hlive
      · next hkept =>
        rw [hentry] at hlive ⊢
        obtain ⟨hslot, hsent⟩ := h.liveOutstanding e hlive
        refine ⟨hslot, (hout _).mpr ⟨hsent, ?_⟩⟩
        rw [← Bool.not_eq_true]
        exact fun hacked => hkept ⟨hin, hslot, hacked⟩
    · intro q hq
      obtain ⟨hsent, hacked⟩ := (hout q).mp hq
      obtain ⟨hlive, htag⟩ := h.outstandingLive q hsent
      have hkept : ¬ (between u.ae a u.nfts = true ∧ slot (u.rtx.get (slot q)).tag = slot q ∧
          between u.ae (u.rtx.get (slot q)).tag (a + 1#3) = true) := by
        rintro ⟨_, _, hc⟩
        rw [htag, hacked] at hc
        cases hc
      rw [heffect.rtx, if_neg hkept]
      exact ⟨hlive, htag⟩
    · intro q hq
      rw [hbuf]
      exact h.outstandingHeld q ((hout q).mp hq).1
  · rw [if_neg hin] at hae
    refine h.of_eq hae hnfts (Quad.ext_get fun e => ?_) hbuf
    rw [heffect.rtx, if_neg fun hc => hin hc.1]

/-- A new frame takes the slot of `NFTS`, which no outstanding number has while there is credit. -/
theorem SenderOk.send (h : SenderOk s) {p : Packet} {x : RtxEntry} (hroom : s.nout < Config.nrBufs)
    (hlive : x.live = true) (htag : x.tag = s.nfts) (hae : t.ae = s.ae) (hnfts : t.nfts = s.nfts + 1#3)
    (hrtx : t.rtx = s.rtx.set (slot s.nfts) x) (hbuf : t.outBuf = s.outBuf.write (slot s.nfts) p) :
    SenderOk t := by
  have hout : ∀ q, t.outstanding q = true ↔ s.outstanding q = true ∨ q = s.nfts := fun q => by
    rw [State.outstanding, hae, hnfts]
    exact between_sent_iff q hroom
  constructor
  · intro e
    rw [hrtx, Quad.get_set]
    split
    · next he => exact fun _ => ⟨by rw [htag, he], (hout _).mpr (.inr htag)⟩
    · intro hlive
      obtain ⟨hslot, hsent⟩ := h.liveOutstanding e hlive
      exact ⟨hslot, (hout _).mpr (.inl hsent)⟩
  · intro q hq
    rw [hrtx]
    rcases (hout q).mp hq with hsent | rfl
    · rw [Quad.get_set_of_ne _ _ (slot_ne_nfts_of_outstanding hroom hsent)]
      exact h.outstandingLive q hsent
    · rw [Quad.get_set_self]
      exact ⟨hlive, htag⟩
  · intro q hq
    rw [hbuf]
    rcases (hout q).mp hq with hsent | rfl
    · rw [Memory.read_write_of_ne _ _ (slot_ne_nfts_of_outstanding hroom hsent)]
      exact h.outstandingHeld q hsent
    · rw [Memory.read_write_self]
      rfl

end

/-! ### The receiving half -/

/-- R244(a), R247: the slot of `FE` is not arrived, and arrived slots hold packets. -/
structure ReceiverOk (s : State) : Prop where
  drained : s.arrived.get (slot s.fe) = false
  arrivedHeld : ∀ e : Slot, s.arrived.get e = true → (s.inBuf.read e).isSome = true

theorem ReceiverOk.of_eq {s t : State} (h : ReceiverOk s) (hfe : t.fe = s.fe)
    (harr : t.arrived = s.arrived) (hbuf : t.inBuf = s.inBuf) : ReceiverOk t :=
  ⟨by rw [hfe, harr]; exact h.drained, by rw [harr, hbuf]; exact h.arrivedHeld⟩

/-- The drain loop ends at a slot that is not arrived (43 R177). -/
theorem clearRun_runLength (arr : Quad Bool) (q : Seq) :
    (clearRun (runLength 4 arr q) arr q).get (slot (q + BitVec.ofNat 3 (runLength 4 arr q))) = false := by
  have h : ∀ (b0 b1 b2 b3 : Bool) (q : Seq),
      (clearRun (runLength 4 ⟨b0, b1, b2, b3⟩ q) ⟨b0, b1, b2, b3⟩ q).get
        (slot (q + BitVec.ofNat 3 (runLength 4 ⟨b0, b1, b2, b3⟩ q))) = false := by decide
  exact h arr.s0 arr.s1 arr.s2 arr.s3 q

/-- Draining marks no slot. -/
theorem get_of_get_clearRun {n : Nat} {arr : Quad Bool} {q : Seq} {e : Slot}
    (h : (clearRun n arr q).get e = true) : arr.get e = true := by
  induction n generalizing arr q with
  | zero => exact h
  | succ n ih =>
    have hset := ih h
    rw [Quad.get_set] at hset
    split at hset
    · cases hset
    · exact hset

/-- Acceptance and drain keep the receiving half (43 R176, R177). -/
theorem ReceiverOk.receive {s t : State} {f : FrameWord} {arr : Quad Bool} {buf : Memory} {n : Nat}
    (h : ReceiverOk s)
    (hcase : (Accepted f s ∧ buf = s.inBuf.write (slot f.seq) f.payload ∧
        arr = s.arrived.set (slot f.seq) true ∧ n = runLength 4 arr s.fe) ∨
      (¬ Accepted f s ∧ buf = s.inBuf ∧ arr = s.arrived ∧ n = 0))
    (hfe : t.fe = s.fe + BitVec.ofNat 3 n) (harr : t.arrived = clearRun n arr s.fe)
    (hbuf : t.inBuf = buf) : ReceiverOk t := by
  rcases hcase with ⟨_, rfl, rfl, rfl⟩ | ⟨_, rfl, rfl, rfl⟩
  · refine ⟨by rw [hfe, harr]; exact clearRun_runLength _ _, fun e he => ?_⟩
    rw [harr] at he
    have hmarked := get_of_get_clearRun he
    rw [Quad.get_set] at hmarked
    rw [hbuf, Memory.read_write]
    split
    · rfl
    · next hne => exact h.arrivedHeld e (by rwa [if_neg hne] at hmarked)
  · exact h.of_eq (hfe.trans (BitVec.add_zero _)) harr hbuf

/-! ### The invariant, event by event -/

theorem EngineInv.sender {s : State} (h : EngineInv s) : SenderOk s :=
  ⟨h.liveOutstanding, h.outstandingLive, h.outstandingHeld⟩

theorem EngineInv.receiver {s : State} (h : EngineInv s) : ReceiverOk s := ⟨h.drained, h.arrivedHeld⟩

/-- What an event has to keep beside the window, the timers and the buffers, which every event keeps: no
fault, and the two halves. -/
structure Healthy (t : State) : Prop where
  waiting : t.ctl = .wait
  noCause : t.fcause = 0
  sender : SenderOk t
  receiver : ReceiverOk t

theorem Healthy.engineInv {t : State} (h : Healthy t) (hwindow : WindowOk t) (htimers : TimersOk t)
    (hbuffers : BuffersOk t) : EngineInv t where
  waiting := h.waiting
  noCause := h.noCause
  window := hwindow
  drained := h.receiver.drained
  arrivedHeld := h.receiver.arrivedHeld
  timers := htimers
  liveOutstanding := h.sender.liveOutstanding
  outstandingLive := h.sender.outstandingLive
  outstandingHeld := h.sender.outstandingHeld
  buffers := hbuffers

section
variable {s u t : State}

theorem Healthy.of_ackEffect {a : Seq} (heffect : AckEffect a u t) (h : Healthy u) : Healthy t where
  waiting := by rw [heffect.frame]; exact h.waiting
  noCause := by rw [heffect.frame]; exact h.noCause
  sender := h.sender.of_ackEffect heffect
  receiver := by rw [heffect.frame]; exact h.receiver.of_eq rfl rfl rfl

/-- While there is credit the slot of `NFTS` is free, so NETWORK_LAYER_READY goes through. -/
theorem exec_nlr_healthy (hs : EngineInv s) (h : exec .nlr s = .next t) : Healthy t := by
  have hroom := room_of_exec_nlr h
  have hcredit := (credit_pos_iff s).mpr hroom
  obtain ⟨p, hoff, _⟩ := exec_nlr_next h
  obtain ⟨hctl, _, hnl⟩ := (offered_iff s p).mp hoff
  obtain ⟨_, _, hgoes⟩ := nlrSendsTheOfferedPacket.2 s p hctl hnl hcredit
  obtain ⟨t', hexec, _, ht'⟩ := hgoes (nfts_slot_free_of_inv hs hcredit)
  cases hexec.symm.trans h
  rw [ht', inc_eq]
  exact ⟨hs.waiting, hs.noCause, hs.sender.send hroom rfl rfl rfl rfl rfl rfl,
    hs.receiver.of_eq rfl rfl rfl⟩

/-- Arrived slots hold packets, so the drain loop does not fault. -/
theorem exec_faData_healthy (hs : EngineInv s) (h : exec .faData s = .next t) : Healthy t := by
  obtain ⟨f, _, harrive, _⟩ := exec_faData_next h
  obtain ⟨hctl, hrx, hkind⟩ := (arriving_iff _ _ _).mp harrive
  obtain ⟨nak, hnak⟩ := exists_nak_decision f s
  obtain ⟨buf, arr, n, hcase⟩ : ∃ (buf : Memory) (arr : Quad Bool) (n : Nat),
      (Accepted f s ∧ buf = s.inBuf.write (slot f.seq) f.payload ∧
        arr = s.arrived.set (slot f.seq) true ∧ n = runLength 4 arr s.fe) ∨
      (¬ Accepted f s ∧ buf = s.inBuf ∧ arr = s.arrived ∧ n = 0) := by
    by_cases hacc : Accepted f s
    · exact ⟨_, _, _, .inl ⟨hacc, rfl, rfl, rfl⟩⟩
    · exact ⟨_, _, _, .inr ⟨hacc, rfl, rfl, rfl⟩⟩
  obtain ⟨t', hexec, heffect⟩ :=
    dataFrameIsAcceptedAndDrained.2.2 s f hctl hrx hkind hs.arrivedHeld nak buf arr n hnak hcase
  cases hexec.symm.trans h
  refine Healthy.of_ackEffect heffect ⟨hs.waiting, hs.noCause, ?_, ?_⟩
  · exact hs.sender.of_eq rfl rfl rfl rfl
  · exact hs.receiver.receive hcase rfl rfl rfl

theorem exec_faAck_healthy (hs : EngineInv s) (h : exec .faAck s = .next t) : Healthy t := by
  obtain ⟨f, _, rfl⟩ := exec_faAck_next h
  have htaken : Healthy s.takeRx :=
    ⟨hs.waiting, hs.noCause, hs.sender.of_eq rfl rfl rfl rfl, hs.receiver.of_eq rfl rfl rfl⟩
  exact htaken.of_ackEffect (ackProcess_effect f.ack s.takeRx)

/-- An outstanding number is held and has its timer, so the resend goes through. -/
theorem exec_faNak_healthy (hs : EngineInv s) (h : exec .faNak s = .next t) : Healthy t := by
  obtain ⟨f, harrive, _⟩ := exec_faNak_next h
  obtain ⟨hctl, hrx, hkind⟩ := (arriving_iff _ _ _).mp harrive
  obtain ⟨_, hpremises, hquiet, hresend⟩ :=
    nakFrameResendsTheRequestedFrame.2 s f hctl hrx hkind
  by_cases hout : between s.ae (inc f.ack) s.nfts = true
  · obtain ⟨hheld, hfree⟩ := hpremises hs hout
    obtain ⟨p, hread⟩ := Option.isSome_iff_exists.mp hheld
    obtain ⟨t', hexec, heffect⟩ := hresend hout p hread hfree
    cases hexec.symm.trans h
    refine Healthy.of_ackEffect heffect ⟨hs.waiting, hs.noCause, ?_, ?_⟩
    · exact hs.sender.rearm hout rfl rfl rfl rfl rfl rfl
    · exact hs.receiver.of_eq rfl rfl rfl
  · obtain ⟨t', hexec, heffect⟩ := hquiet (by simpa using hout)
    cases hexec.symm.trans h
    refine Healthy.of_ackEffect heffect ⟨hs.waiting, hs.noCause, ?_, ?_⟩
    · exact hs.sender.of_eq rfl rfl rfl rfl
    · exact hs.receiver.of_eq rfl rfl rfl

/-- An expired timer belongs to an outstanding number of its slot, which is held. -/
theorem exec_timeout_healthy {q : Seq} (hs : EngineInv s) (h : exec (.timeout q) s = .next t) :
    Healthy t := by
  obtain ⟨hexpired, htag, _⟩ := exec_timeout_next h
  obtain ⟨hctl, hpend⟩ := (expired_iff _ _).mp hexpired
  obtain ⟨hslot, hout⟩ := hs.liveOutstanding s.sel ((RtxEntry.live_iff _).mpr (.inr hpend))
  rw [htag] at hslot hout
  obtain ⟨p, hread⟩ := Option.isSome_iff_exists.mp (hs.outstandingHeld q hout)
  have hexec := timeoutResendsTheTimersFrame.2.2 s q p hctl hpend htag hslot hread
  rw [← hslot] at hexec
  cases hexec.symm.trans h
  exact ⟨hs.waiting, hs.noCause, hs.sender.rearm hout rfl rfl rfl rfl rfl rfl,
    hs.receiver.of_eq rfl rfl rfl⟩

/-- The other events write nothing that the invariant's halves read. -/
theorem Writes.healthy {i : Instr} (hs : EngineInv s) (h : Writes s i t)
    (hi : i = .faRsvd ∨ i = .cksum ∨ i = .ackto ∨ i = .rsvd5 ∨ i = .rsvd6 ∨ i = .rsvd7) :
    Healthy t := by
  cases h with
  | nlr | faData | faAck | faNak | timeout => simp at hi
  | _ =>
    exact ⟨hs.waiting, hs.noCause, hs.sender.of_eq rfl rfl rfl rfl, hs.receiver.of_eq rfl rfl rfl⟩

theorem exec_healthy {i : Instr} (hs : EngineInv s) (h : exec i s = .next t) : Healthy t := by
  cases i with
  | nlr => exact exec_nlr_healthy hs h
  | faData => exact exec_faData_healthy hs h
  | faAck => exact exec_faAck_healthy hs h
  | faNak => exact exec_faNak_healthy hs h
  | timeout q => exact exec_timeout_healthy hs h
  | _ => exact (exec_writes h).healthy hs (by simp)

theorem exec_engineInv {i : Instr} (hs : EngineInv s) (h : exec i s = .next t) : EngineInv t :=
  (exec_healthy hs h).engineInv (exec_windowOk hs.window h) (exec_timersOk hs.timers h)
    (exec_buffersOk hs.buffers h)

end

/-! ### The other agents -/

theorem EngineInv.of_sameEngine {s u : State} (hsame : SameEngine s u) (hs : EngineInv s) :
    EngineInv u := by
  have htimers := kept_timersOk.same hsame hs.timers
  have hbuffers := kept_buffersOk.same hsame hs.buffers
  rw [hsame] at htimers hbuffers ⊢
  exact Healthy.engineInv ⟨hs.waiting, hs.noCause, hs.sender.of_eq rfl rfl rfl rfl,
    hs.receiver.of_eq rfl rfl rfl⟩ hs.window htimers hbuffers

/-- A tick turns a running timer into a pending one at most. -/
theorem RtxEntry.tick_live (w : Nat) (x : RtxEntry) : (x.tick w).live = x.live := by
  cases harmed : x.armed with
  | false => rw [RtxEntry.tick_idle harmed]
  | true =>
    simp only [RtxEntry.tick, harmed, if_true]
    split <;> simp [RtxEntry.live, harmed]

theorem RtxEntry.tick_tag (w : Nat) (x : RtxEntry) : (x.tick w).tag = x.tag := by
  simp only [RtxEntry.tick]
  split
  · split <;> rfl
  · rfl

theorem SenderOk.tick {s : State} (h : SenderOk s) : SenderOk s.tick := by
  refine ⟨fun e => ?_, fun q => ?_, h.outstandingHeld⟩
  · rw [State.tick_rtx_get, RtxEntry.tick_live, RtxEntry.tick_tag]
    exact h.liveOutstanding e
  · rw [State.tick_rtx_get, RtxEntry.tick_live, RtxEntry.tick_tag]
    exact h.outstandingLive q

theorem EngineInv.tick {s : State} (hs : EngineInv s) : EngineInv s.tick :=
  Healthy.engineInv ⟨hs.waiting, hs.noCause, hs.sender.tick, hs.receiver.of_eq rfl rfl rfl⟩
    hs.window (kept_timersOk.tick hs.timers) (kept_buffersOk.tick hs.buffers)

/-- Nothing is outstanding and no timer is live right after reset. -/
theorem State.resetWith_senderOk (c : Timeouts) : SenderOk (State.resetWith c) := by
  have hnone : ∀ q, (State.resetWith c).outstanding q ≠ true := fun q hq => by
    have hlt : _ < (State.resetWith c).nout := (between_iff_seqDiff _ _ _).mp hq
    rw [State.resetWith_nout] at hlt
    exact Nat.not_lt_zero _ hlt
  refine ⟨fun e hlive => ?_, fun q hq => absurd hq (hnone q), fun q hq => absurd hq (hnone q)⟩
  obtain ⟨_, _, _, hidle⟩ := State.resetWith_slot c e
  rw [hidle] at hlive
  cases hlive

theorem State.resetWith_receiverOk (c : Timeouts) : ReceiverOk (State.resetWith c) := by
  refine ⟨(State.resetWith_slot c _).1, fun e harr => ?_⟩
  rw [(State.resetWith_slot c e).1] at harr
  cases harr

theorem State.resetWith_engineInv (c : Timeouts) : EngineInv (State.resetWith c) :=
  Healthy.engineInv ⟨rfl, rfl, State.resetWith_senderOk c, State.resetWith_receiverOk c⟩
    (State.resetWith_windowOk c) (State.resetWith_timersOk c) ⟨rfl, rfl⟩

/-- Settles O52. -/
theorem resetMeetsTheInvariant : Obligations.ResetMeetsTheInvariant := by
  unfold Obligations.ResetMeetsTheInvariant
  exact ⟨State.resetWith_engineInv _, State.resetWith_engineInv⟩

theorem kept_engineInv : Kept EngineInv where
  same := EngineInv.of_sameEngine
  exec := exec_engineInv
  tick := EngineInv.tick
  reset {s} _ := (State.resetWith_engineInv s.timeouts).of_sameEngine rfl

/-- Settles O53: the events keep the invariant, and so do the moves of the other agents. -/
theorem stepKeepsTheInvariant : Obligations.StepKeepsTheInvariant := by
  unfold Obligations.StepKeepsTheInvariant
  exact fun _ _ => kept_engineInv.step

end Sys2Proof.Machine
end

section
/-! SUPPORT. Free steps, which never stop the machine (43_protocol_engine R171), and packets, which keep
their width through every move (00_scope R9). -/

namespace Sys2Proof.Machine

/-! ### Free steps -/

/-- No move touches the agenda or the counter of free choices. -/
theorem makeMove_agenda_turn {m : Move} {s t : State} (h : makeMove m s = .next t) :
    t.agenda = s.agenda ∧ t.turn = s.turn := by
  rcases makeMove_cases h with ⟨i, e, hexec⟩ | rfl | rfl | ⟨p, _, _, rfl⟩ | ⟨x, _, _, rfl⟩
  · cases exec_writes hexec <;> exact ⟨rfl, rfl⟩
  all_goals exact ⟨rfl, rfl⟩

/-- An agent that may make a move can make it. -/
theorem makeMove_next_of_enabled {m : Move} {s : State} (h : enabled m s = true) :
    ∃ t, makeMove m s = .next t := by
  cases m with
  | take src =>
    obtain ⟨⟨ev, e⟩, harb⟩ := Option.isSome_iff_exists.mp h
    obtain ⟨_, _, hnext⟩ := arbiterFormsTheEventsWord src s ev e harb
    rwa [makeMove, takeEvent, harb]
  | drive ev e => cases h
  | tick => exact ⟨_, rfl⟩
  | rst => exact ⟨_, rfl⟩
  | offer p => exact ⟨_, by rw [makeMove, offerPacket, Option.isNone_iff_eq_none.mp h]⟩
  | present x => exact ⟨_, by rw [makeMove, presentItem, Option.isNone_iff_eq_none.mp h]⟩

/-- Settles O15: the free move is made if it is enabled, and the turn is idle if not. -/
theorem freeStepsNeverStop : Obligations.FreeStepsNeverStop := by
  unfold Obligations.FreeStepsNeverStop
  intro s hagenda
  have hstep : step s = freeStep s := by rw [step, agentStep, hagenda]
  rw [hstep, freeStep]
  split
  · next henabled =>
    obtain ⟨t, ht⟩ := makeMove_next_of_enabled henabled
    obtain ⟨hkept, hturn⟩ := makeMove_agenda_turn ht
    exact ⟨t, ht, hkept.trans hagenda, hturn⟩
  · exact ⟨_, rfl, hagenda, rfl⟩

/-! ### Packets within a width -/

section
variable {w : Nat} {m : Memory} {e : Slot} {p : Packet}

theorem Memory.fits_write (hm : m.fits w) (hp : p.fits w) : (m.write e p).fits w := by
  induction m with
  | nil => exact List.forall_mem_singleton.mpr hp
  | cons c rest ih =>
    obtain ⟨hc, hrest⟩ := List.forall_mem_cons.mp hm
    simp only [Memory.write]
    split
    · exact List.forall_mem_cons.mpr ⟨hp, hm⟩
    · split
      · exact List.forall_mem_cons.mpr ⟨hp, hrest⟩
      · exact List.forall_mem_cons.mpr ⟨hc, ih hrest⟩

theorem Memory.fits_of_read (hm : m.fits w) (h : m.read e = some p) : p.fits w := by
  induction m with
  | nil => cases h
  | cons c rest ih =>
    obtain ⟨hc, hrest⟩ := List.forall_mem_cons.mp hm
    simp only [Memory.read] at h
    split at h
    · cases h
      exact hc
    · exact ih hrest h

end

/-- The value of an absent payload fits every width (30_encoding R79). -/
theorem Packet.fits_zero (w : Nat) : Packet.zero.fits w := Nat.two_pow_pos w

/-- A conforming frame that is not DATA carries no packet (30_encoding R79). -/
theorem payload_eq_zero_of_conforms {fe : Seq} {f : FrameWord} (h : Conforms fe f)
    (hkind : f.kind ≠ .data) : f.payload = Packet.zero := by
  obtain ⟨hwf, _⟩ := h
  cases hk : f.kind with
  | data => exact absurd hk hkind
  | ack | nak =>
    simp only [Frame.wellFormed, FrameWord.toFrame, hk, Bool.and_eq_true, beq_iff_eq] at hwf
    exact hwf.1.2
  | rsvd =>
    simp only [Frame.wellFormed, FrameWord.toFrame, hk] at hwf
    cases hwf

/-- The packets an event emits are packets of the buffers it leaves. -/
theorem Reports.outputs_fit {w : Nat} {i : Instr} {s t : State} {a : Actions} (h : Reports i s t a)
    (hin : t.inBuf.fits w) (hout : t.outBuf.fits w) : ∀ o ∈ t.out, o.fits w := by
  intro o ho
  cases o with
  | tx f =>
    have hf := (h.tx_mem_iff f).mp ho
    by_cases hkind : f.kind = .data
    · obtain ⟨e, hread⟩ := h.held f hf hkind
      exact Memory.fits_of_read hout hread
    · rw [Output.fits, payload_eq_zero_of_conforms (h.conform f hf) hkind]
      exact Packet.fits_zero w
  | deliver p =>
    obtain ⟨e, hread⟩ := h.dl_held p ((h.deliver_mem_iff p).mp ho)
    exact Memory.fits_of_read hin hread
  | _ => trivial

/-- An event keeps or takes what stands at the ports (44 R202, R205). -/
theorem Writes.ports {i : Instr} {s t : State} (h : Writes s i t) :
    (t.nl = s.nl ∨ t.nl = none) ∧ (t.rx = s.rx ∨ t.rx = none) := by
  cases h <;> simp

theorem exec_packetsFit {w : Nat} {i : Instr} {s t : State} (hs : PacketsFit w s)
    (h : exec i s = .next t) : PacketsFit w t := by
  obtain ⟨a, hrep⟩ := exec_reports h
  obtain ⟨hnl, hrx⟩ := (exec_writes h).ports
  have hin : t.inBuf.fits w := by
    rcases exec_inBuf h with hsame | ⟨_, f, hitem, _, hwrite⟩
    · rw [hsame]
      exact hs.inBuf
    · rw [hwrite]
      exact Memory.fits_write hs.inBuf (hs.item _ hitem)
  have hout : t.outBuf.fits w := by
    rcases exec_outBuf h with ⟨_, hsame⟩ | ⟨_, p, hoffer, hwrite⟩
    · rw [hsame]
      exact hs.outBuf
    · rw [hwrite]
      exact Memory.fits_write hs.outBuf (hs.offer p hoffer)
  refine ⟨hin, hout, fun p hp => ?_, fun x hx => ?_, hrep.outputs_fit hin hout⟩
  · rcases hnl with hnl | hnl <;> rw [hnl] at hp
    · exact hs.offer p hp
    · cases hp
  · rcases hrx with hrx | hrx <;> rw [hrx] at hx
    · exact hs.item x hx
    · cases hx

/-- Settles O57: an event moves packets between its ports and buffers, and the environment's moves bring
in packets that fit. -/
theorem movesKeepPacketsInWidth : Obligations.MovesKeepPacketsInWidth := by
  unfold Obligations.MovesKeepPacketsInWidth
  intro w m s t hs hm h
  have hsilent : ∀ o ∈ ([] : List Output), o.fits w := fun _ ho => by cases ho
  have hempty : Memory.fits w [] := fun _ hc => by cases hc
  rcases makeMove_cases h with ⟨i, e, hexec⟩ | rfl | rfl | ⟨p, rfl, _, rfl⟩ | ⟨x, rfl, _, rfl⟩
  · have hsel : PacketsFit w (s.setSel e) := ⟨hs.inBuf, hs.outBuf, hs.offer, hs.item, hs.out⟩
    exact exec_packetsFit hsel hexec
  · exact ⟨hs.inBuf, hs.outBuf, hs.offer, hs.item, hsilent⟩
  · exact ⟨hempty, hempty, hs.offer, hs.item, List.forall_mem_singleton.mpr trivial⟩
  · exact ⟨hs.inBuf, hs.outBuf, fun q hq => by cases hq; exact hm, hs.item, hsilent⟩
  · exact ⟨hs.inBuf, hs.outBuf, hs.offer, fun y hy => by cases hy; exact hm, hsilent⟩

end Sys2Proof.Machine
end

section
/-! SUPPORT. Two engines on a link (60_exceptions R234, 44_external_interfaces R211, R214): what one step of
a pair does to each engine and to each queue, said once, and the statements about pairs. -/

namespace Sys2Proof.Machine

/-! ### The two sides -/

theorem forall_side {P : Side → Prop} : (∀ d, P d) ↔ P .a ∧ P .b := by
  constructor
  · exact fun h => ⟨h .a, h .b⟩
  · rintro ⟨ha, hb⟩ d
    cases d
    · exact ha
    · exact hb

section
variable (p : Pair) (d : Side) (s : State) (l : List FrameWord)

@[simp] theorem Side.peer_ne : d.peer ≠ d := by cases d <;> decide

theorem Side.eq_peer_of_ne {c d : Side} (h : c ≠ d) : c = d.peer := by
  revert c d
  simp only [forall_side]
  decide

@[simp] theorem Pair.engine_setEngine_self : (p.setEngine d s).engine d = s := by cases d <;> rfl

@[simp] theorem Pair.engine_setEngine_peer : (p.setEngine d s).engine d.peer = p.engine d.peer := by
  cases d <;> rfl

@[simp] theorem Pair.queue_setEngine (c : Side) : (p.setEngine d s).queue c = p.queue c := by
  cases d <;> cases c <;> rfl

@[simp] theorem Pair.engine_setQueue (c : Side) : (p.setQueue d l).engine c = p.engine c := by
  cases d <;> cases c <;> rfl

@[simp] theorem Pair.queue_setQueue_self : (p.setQueue d l).queue d = l := by cases d <;> rfl

@[simp] theorem Pair.queue_setQueue_of_peer : (p.setQueue d.peer l).queue d = p.queue d := by
  cases d <;> rfl

@[simp] theorem Pair.queue_setQueue_peer : (p.setQueue d l).queue d.peer = p.queue d.peer := by
  cases d <;> rfl

end

/-! ### One step of a pair -/

theorem Pair.arrive_next {p p' : Pair} {d : Side} {x : RxItem} {rest : List FrameWord}
    (h : p.arrive d x rest = .next p') :
    ∃ t, presentItem x (p.engine d) = .next t ∧ p' = (p.setEngine d t).setQueue d rest := by
  simp only [Pair.arrive] at h
  split at h
  · next t ht => cases h; exact ⟨t, ht, rfl⟩
  · cases h
  · cases h

theorem pairStep_engine_next {side : Side} {m : Move} {p p' : Pair}
    (h : pairStep (.engine side m) p = .next p') :
    ownMove m = true ∧ ∃ t, makeMove m (p.engine side) = .next t ∧ p' = p.afterStep side t := by
  simp only [pairStep] at h
  split at h
  · next hown =>
    split at h
    · next t ht => cases h; exact ⟨hown, t, ht, rfl⟩
    · cases h
    · cases h
  · cases h

/-- Everything a step of a pair can do: an engine moves, time passes, an item made of the queue arrives, or
the link rearranges frames of a queue, or loses or repeats them. -/
theorem pairStep_cases {m : LinkMove} {p p' : Pair} (h : pairStep m p = .next p') :
    (∃ side mv t, ownMove mv = true ∧ makeMove mv (p.engine side) = .next t ∧
      p' = p.afterStep side t) ∨
    p' = { p with a := p.a.tick, b := p.b.tick } ∨
    (∃ d x t rest, (∀ f, x = .frame f → f ∈ p.queue d) ∧ (∀ f ∈ rest, f ∈ p.queue d) ∧
      presentItem x (p.engine d) = .next t ∧ p' = (p.setEngine d t).setQueue d rest) ∨
    (∃ d l, (∀ f ∈ l, f ∈ p.queue d) ∧ p' = p.setQueue d l) := by
  cases m with
  | engine side mv =>
    obtain ⟨hown, t, ht, hp⟩ := pairStep_engine_next h
    exact .inl ⟨side, mv, t, hown, ht, hp⟩
  | tick => exact .inr (.inl (Host.Outcome.next.inj h).symm)
  | deliver d =>
    simp only [pairStep] at h
    split at h
    · next f rest hq =>
      obtain ⟨t, ht, hp⟩ := Pair.arrive_next h
      refine .inr (.inr (.inl ⟨d, _, t, rest, ?_, ?_, ht, hp⟩)) <;> simp_all
    · cases h
  | corrupt d =>
    simp only [pairStep] at h
    split at h
    · next f rest hq =>
      obtain ⟨t, ht, hp⟩ := Pair.arrive_next h
      refine .inr (.inr (.inl ⟨d, _, t, rest, ?_, ?_, ht, hp⟩)) <;> simp_all
    · cases h
  | drop d =>
    simp only [pairStep] at h
    split at h
    · next f rest hq =>
      cases h
      exact .inr (.inr (.inr ⟨d, rest, by simp_all, rfl⟩))
    · cases h
  | overtake d k =>
    simp only [pairStep] at h
    split at h
    · next f hk =>
      cases h
      refine .inr (.inr (.inr ⟨d, _, ?_, rfl⟩))
      exact List.forall_mem_cons.mpr ⟨List.mem_of_getElem? hk, fun g => List.mem_of_mem_eraseIdx⟩
    · cases h
  | duplicate d =>
    simp only [pairStep] at h
    split at h
    · next f rest hq =>
      cases h
      exact .inr (.inr (.inr ⟨d, _, by simp_all, rfl⟩))
    · cases h

/-- Each engine stays, or makes one of its moves. -/
theorem pairStep_engine {m : LinkMove} {p p' : Pair} (h : pairStep m p = .next p') (d : Side) :
    p'.engine d = p.engine d ∨ ∃ mv, makeMove mv (p.engine d) = .next (p'.engine d) := by
  rcases pairStep_cases h with ⟨side, mv, t, _, ht, rfl⟩ | rfl | ⟨c, x, t, rest, _, _, ht, rfl⟩ |
    ⟨c, l, _, rfl⟩
  · by_cases hd : d = side
    · subst hd
      exact .inr ⟨mv, by rw [Pair.afterStep, Pair.engine_setQueue, Pair.engine_setEngine_self, ht]⟩
    · rw [Side.eq_peer_of_ne hd]
      exact .inl (by rw [Pair.afterStep, Pair.engine_setQueue, Pair.engine_setEngine_peer])
  · exact .inr ⟨.tick, by cases d <;> rfl⟩
  · by_cases hd : d = c
    · subst hd
      exact .inr ⟨.present x, by rw [Pair.engine_setQueue, Pair.engine_setEngine_self]; exact ht⟩
    · rw [Side.eq_peer_of_ne hd]
      exact .inl (by rw [Pair.engine_setQueue, Pair.engine_setEngine_peer])
  · exact .inl (Pair.engine_setQueue ..)

/-- Settles O60. -/
theorem enginesShareNothing : Obligations.EnginesShareNothing := by
  unfold Obligations.EnginesShareNothing
  intro side m p p' h
  obtain ⟨_, t, ht, rfl⟩ := pairStep_engine_next h
  simp [Pair.afterStep, ht]

/-- Settles O58: whatever the link does, an engine of the pair only makes moves of its own, and each of
them keeps its invariant. -/
theorem linkedEnginesKeepTheirInvariants : Obligations.LinkedEnginesKeepTheirInvariants := by
  unfold Obligations.LinkedEnginesKeepTheirInvariants
  refine ⟨fun ca cb => ⟨State.resetWith_engineInv ca, State.resetWith_engineInv cb⟩, ?_⟩
  intro m p p' ha hb h
  have hboth : ∀ d, EngineInv (p.engine d) := forall_side.mpr ⟨ha, hb⟩
  have hkept : ∀ d, EngineInv (p'.engine d) := fun d => by
    rcases pairStep_engine h d with hsame | ⟨mv, hmove⟩
    · rw [hsame]
      exact hboth d
    · exact kept_engineInv.makeMove (hboth d) hmove
  exact forall_side.mp hkept

/-! ### No frame of the reserved kind -/

/-- No anomaly was reported, and no frame of the reserved kind is at the port. -/
structure CleanEngine (s : State) : Prop where
  noAnom : s.anom = false
  port : ∀ x, s.rx = some x → x.defined = true

theorem cleanPair_iff (p : Pair) :
    CleanPair p ↔ (∀ d, CleanEngine (p.engine d)) ∧ ∀ d, ∀ f ∈ p.queue d, f.defined = true := by
  rw [forall_side, forall_side]
  constructor
  · exact fun h => ⟨⟨⟨h.noAnomA, h.portA⟩, ⟨h.noAnomB, h.portB⟩⟩, h.transitBA, h.transitAB⟩
  · rintro ⟨⟨ha, hb⟩, hba, hab⟩
    exact ⟨ha.noAnom, hb.noAnom, ha.port, hb.port, hab, hba⟩

theorem mem_transmitted (f : FrameWord) (s : State) : f ∈ s.transmitted ↔ Output.tx f ∈ s.out := by
  rw [State.transmitted, List.mem_filterMap]
  constructor
  · rintro ⟨o, ho, hf⟩
    cases o with
    | tx g => cases hf; exact ho
    | _ => cases hf
  · exact fun h => ⟨_, h, rfl⟩

/-- A frame that conforms is not of the reserved kind (30_encoding R77). -/
theorem defined_of_conforms {fe : Seq} {f : FrameWord} (h : Conforms fe f) : f.defined = true := by
  rw [FrameWord.defined, decide_eq_true_iff]
  intro hkind
  obtain ⟨hwf, _⟩ := h
  simp only [Frame.wellFormed, FrameWord.toFrame, hkind] at hwf
  cases hwf

/-- Every frame that an event transmits is of a defined kind. -/
theorem exec_transmitted_defined {i : Instr} {s t : State} (h : exec i s = .next t) :
    ∀ f ∈ t.transmitted, f.defined = true := fun f hf =>
  defined_of_conforms (transmittedFramesConform i s t f h ((mem_transmitted f t).mp hf))

/-- A clean engine reports no anomaly on a word of its arbiter, which is neither reserved nor, without a
frame of the reserved kind at the port, FA.RSVD. -/
theorem takeEvent_clean {src : Source} {s t : State} (hs : CleanEngine s)
    (h : takeEvent src s = .next t) : CleanEngine t ∧ ∀ f ∈ t.transmitted, f.defined = true := by
  obtain ⟨ev, e, harb, hexec⟩ := takeEvent_next h
  have hreserved : ∀ i, 4 < (etype (encode i)).toNat → decode ev ≠ i :=
    fun i hi => decode_ne_of_arbitrate harb hi
  have hrsvd : decode ev ≠ .faRsvd := fun hd => by
    rw [hd] at hexec
    obtain ⟨f, harrive, _⟩ := exec_faRsvd_next hexec
    obtain ⟨_, hrx, hkind⟩ := (arriving_iff _ _ _).mp harrive
    exact absurd hkind (decide_eq_true_iff.mp (hs.port _ hrx))
  obtain ⟨_, _, _, _, hanom, _⟩ := eventsWriteOnlyTheirState _ _ _ hexec
  refine ⟨⟨?_, fun x hx => ?_⟩, exec_transmitted_defined hexec⟩
  · rw [hanom hrsvd (hreserved _ (by decide)) (hreserved _ (by decide)) (hreserved _ (by decide))]
    exact hs.noAnom
  · obtain ⟨_, hrx | hrx⟩ := (exec_writes hexec).ports <;> rw [hrx] at hx
    · exact hs.port x hx
    · cases hx

theorem makeMove_clean {m : Move} {s t : State} (hown : ownMove m = true) (hs : CleanEngine s)
    (h : makeMove m s = .next t) : CleanEngine t ∧ ∀ f ∈ t.transmitted, f.defined = true := by
  cases m with
  | take src => exact takeEvent_clean hs h
  | rst => cases h; exact ⟨⟨rfl, hs.port⟩, fun f hf => by cases hf⟩
  | offer p =>
    obtain ⟨_, rfl⟩ := offerPacket_next h
    exact ⟨⟨hs.noAnom, hs.port⟩, fun f hf => by cases hf⟩
  | drive _ _ | tick | present _ => cases hown

theorem CleanPair.setQueue {p : Pair} (hp : CleanPair p) (d : Side) {l : List FrameWord}
    (hl : ∀ f ∈ l, f.defined = true) : CleanPair (p.setQueue d l) := by
  obtain ⟨hengine, hqueue⟩ := (cleanPair_iff p).mp hp
  refine (cleanPair_iff _).mpr ⟨fun c => ?_, fun c => ?_⟩
  · rw [Pair.engine_setQueue]
    exact hengine c
  · by_cases hc : c = d
    · subst hc
      rwa [Pair.queue_setQueue_self]
    · rw [Side.eq_peer_of_ne hc, Pair.queue_setQueue_peer]
      exact hqueue _

theorem CleanPair.setEngine {p : Pair} (hp : CleanPair p) (d : Side) {s : State} (hs : CleanEngine s) :
    CleanPair (p.setEngine d s) := by
  obtain ⟨hengine, hqueue⟩ := (cleanPair_iff p).mp hp
  refine (cleanPair_iff _).mpr ⟨fun c => ?_, fun c => ?_⟩
  · by_cases hc : c = d
    · subst hc
      rwa [Pair.engine_setEngine_self]
    · rw [Side.eq_peer_of_ne hc, Pair.engine_setEngine_peer]
      exact hengine _
  · rw [Pair.queue_setEngine]
    exact hqueue c

theorem pairStep_cleanPair {m : LinkMove} {p p' : Pair} (hp : CleanPair p)
    (h : pairStep m p = .next p') : CleanPair p' := by
  obtain ⟨hengine, hqueue⟩ := (cleanPair_iff p).mp hp
  rcases pairStep_cases h with ⟨side, mv, t, hown, ht, rfl⟩ | rfl | ⟨d, x, t, rest, hx, hrest, ht, rfl⟩ |
    ⟨d, l, hl, rfl⟩
  · obtain ⟨hclean, hsent⟩ := makeMove_clean hown (hengine side) ht
    refine (hp.setEngine side hclean).setQueue _ fun f hf => ?_
    rcases List.mem_append.mp hf with hold | hnew
    · exact hqueue _ f hold
    · exact hsent f hnew
  · exact ⟨hp.noAnomA, hp.noAnomB, hp.portA, hp.portB, hp.transitAB, hp.transitBA⟩
  · obtain ⟨_, rfl⟩ := presentItem_next ht
    have hitem : x.defined = true := by
      cases x with
      | frame f => exact hqueue d f (hx f rfl)
      | err => rfl
    have hclean : CleanEngine ((p.engine d).begin.setRx (some x)) :=
      ⟨(hengine d).noAnom, fun y hy => by cases hy; exact hitem⟩
    exact (hp.setEngine d hclean).setQueue d fun f hf => hqueue d f (hrest f hf)
  · exact hp.setQueue d fun f hf => hqueue d f (hl f hf)

/-- Settles O59: every frame in transit was transmitted by an engine, so none is of the reserved kind. -/
theorem linkedEnginesReportNoAnomaly : Obligations.LinkedEnginesReportNoAnomaly := by
  unfold Obligations.LinkedEnginesReportNoAnomaly
  refine ⟨fun ca cb => ?_, fun _ _ _ => pairStep_cleanPair⟩
  exact ⟨rfl, rfl, (fun _ h => by cases h), (fun _ h => by cases h), List.forall_mem_nil _,
    List.forall_mem_nil _⟩

end Sys2Proof.Machine
end
